-- ==== Sys2Proof/Word.lean ====
section
/-! DEFINITION. Word widths of the GN612: bytes, two-byte fields, four-byte units and node-time values. -/

namespace Sys2Proof

/-- One byte of a frame. -/
abbrev Byte := BitVec 8

/-- A two-byte field: cycle numbers, periods, offsets, widths, 16-bit counters. -/
abbrev Half := BitVec 16

/-- One unit of 4 bytes (0.7.3), most significant byte first (R193). -/
abbrev Quad := BitVec 32

/-- A node-time value: a count of ticks modulo 2^32 (0.7.1, R1). -/
abbrev Time := BitVec 32

end Sys2Proof
end

