-- ==== Sys2Proof/Syntax.lean ====
section
/-! DEFINITION. The commands of the GN612: one constructor of `Instr` per row of the opcode table, with the row's operands. -/

namespace Sys2Proof

/-- Legs 0..5 of a node (0.7.5). -/
inductive LegId
  | l0 | l1 | l2 | l3 | l4 | l5
  deriving DecidableEq, Repr

/-- Strobes 0 and 1 (0.7.5). -/
inductive StrobeId
  | s0 | s1
  deriving DecidableEq, Repr

/-- Fault channels 0..3 (0.7.5). -/
inductive ChanId
  | c0 | c1 | c2 | c3
  deriving DecidableEq, Repr

/-- The two switches of a leg. -/
inductive Switch
  | upper | lower
  deriving DecidableEq, Repr

/-- What an entry or a request asks of a leg (Table 3, "Target"). -/
inductive Target
  | off | upper | lower
  deriving DecidableEq, Repr

/-- The two chain ports (0.2). -/
inductive Port
  | u | d
  deriving DecidableEq, Repr

/-- The level of an input pin. -/
inductive Level
  | low | high
  deriving DecidableEq, Repr

/-- KIND of a CYCLE entry (Table 49). -/
inductive EntryKind
  | drive | pulse | centred | strobe
  deriving DecidableEq, Repr

/-- One switching entry of a CYCLE frame (Table 49). -/
structure Entry where
  address : Byte
  kind    : EntryKind
  target  : Target
  offset  : Half
  width   : Half
  deriving DecidableEq, Repr

/-- The fields of a CYCLE frame: CYCLE-NUMBER, PERIOD and the entries in frame order (Table 49). -/
structure CycleFrame where
  number  : Half
  period  : Half
  entries : List Entry
  deriving DecidableEq, Repr

/-- What every MANAGE frame carries before its parameters: DEST, SEQ, and the four bits of byte 3 that no table
assigns (Table 49), which are disregarded on reception (R195) and forwarded as they came (R193). -/
structure ManageHead where
  dest  : Byte
  seq   : Byte
  spare : BitVec 4
  deriving DecidableEq, Repr

/-- The two REQUEST codes that name no request kind: 0 and 15 (Table 50). -/
inductive UnknownCode
  | code0 | code15
  deriving DecidableEq, Repr

/-- The commands the node takes: one constructor per row of the opcode table. A frame command is the end of that
frame's reception at its port, with a good check; the two commands of frames that may be bad carry the bytes
received between the delimiters, check included. -/
inductive Instr
  /-- HARD_RESET (R111, R126). -/
  | hardReset
  /-- ENUM with its HOP (R171). -/
  | enum (hop : Byte)
  /-- CYCLE (R167, R3). -/
  | cycle (frame : CycleFrame)
  /-- U_FRAME_DISCARDED: the bytes received at U (R166). -/
  | uFrameDiscarded (bytes : List Byte)
  /-- D_TRANSMIT_END (R168). -/
  | dTransmitEnd
  /-- U_TRANSMIT_END (R173). -/
  | uTransmitEnd
  /-- RETURN_FRAME_RECEIVED: the bytes received at D (R172). -/
  | returnFrameReceived (bytes : List Byte)
  /-- D_PARTNER_LOST (R164). -/
  | dPartnerLost
  /-- D_PARTNER_GAINED (R164). -/
  | dPartnerGained
  /-- U_PARTNER_LOST (R165). -/
  | uPartnerLost
  /-- U_PARTNER_GAINED (R165). -/
  | uPartnerGained
  /-- WINDOW_CLOSE (R9, R13). -/
  | windowClose
  /-- SCHEDULE_TAKE (R60). -/
  | scheduleTake
  /-- PULSE_END of a strobe (R62). -/
  | pulseEnd (strobe : StrobeId)
  /-- GAP_END of a leg (R32). -/
  | gapEnd (leg : LegId)
  /-- MIN_ON_END of a leg (R33). -/
  | minOnEnd (leg : LegId)
  /-- MAX_ON_END of a leg (R34). -/
  | maxOnEnd (leg : LegId)
  /-- SETTLE_END of a leg (R43). -/
  | settleEnd (leg : LegId)
  /-- FEEDBACK_INPUT_CHANGE: the feedback input of a switch is observed at a new level (R73). -/
  | feedbackInputChange (leg : LegId) (switch : Switch) (level : Level)
  /-- WATCH_DEADLINE of a switch's open watch (R77). -/
  | watchDeadline (leg : LegId) (switch : Switch)
  /-- FILTER_END of a switch's running filter (R79). -/
  | filterEnd (leg : LegId) (switch : Switch)
  /-- FAULT_ASSERTION of a channel's input (R91, R93, R100). -/
  | faultAssertion (chan : ChanId)
  /-- FAULT_DEASSERTION of a channel's input (R91, R95, R99). -/
  | faultDeassertion (chan : ChanId)
  /-- QUALIFY_DEADLINE of a channel (R96, R97). -/
  | qualifyDeadline (chan : ChanId)
  /-- RELEASE: the DEADLINE of a HOLDING channel (R101). -/
  | release (chan : ChanId)
  /-- ECHO with 0..3 units of data (R182). -/
  | echo (head : ManageHead) (data : List Quad)
  /-- STATUS (R183). -/
  | status (head : ManageHead)
  /-- COUNTERS with GROUP, PAGE and CLEAR-FLAG (R185). -/
  | counters (head : ManageHead) (group page : Byte) (clearFlag : Bool)
  /-- READ with BANK, TABLE and INDEX (R129). -/
  | read (head : ManageHead) (bank table index : Byte)
  /-- WRITE with TABLE, INDEX and the record's bytes (R130). -/
  | write (head : ManageHead) (table index : Byte) (record : List Byte)
  /-- COPY (R131). -/
  | copy (head : ManageHead)
  /-- COMMIT with FORM IMMEDIATE; the TARGET bytes are carried and disregarded (R134, Table 50). -/
  | commitImmediate (head : ManageHead) (disregarded : Half)
  /-- COMMIT with FORM TARGETED and its target cycle (R135). -/
  | commitTargeted (head : ManageHead) (target : Half)
  /-- CANCEL (R137). -/
  | cancel (head : ManageHead)
  /-- ARM (R115). -/
  | arm (head : ManageHead)
  /-- DISARM (R117). -/
  | disarm (head : ManageHead)
  /-- CLEAR with its LEGS byte (R106, R188). -/
  | clear (head : ManageHead) (legs : Byte)
  /-- RESUME (R122). -/
  | resume (head : ManageHead)
  /-- FLUSH (R189). -/
  | flush (head : ManageHead)
  /-- RESTART (R124, R190). -/
  | restart (head : ManageHead)
  /-- UNKNOWN: a REQUEST code that names no request kind, with 0..64 parameter bytes (R177, Table 50). -/
  | unknown (head : ManageHead) (code : UnknownCode) (params : List Byte)
  /-- FRAME_RECEPTION_BEGINS at a port (R163). -/
  | frameReceptionBegins (port : Port)
  deriving DecidableEq, Repr

end Sys2Proof
end

