-- ==== Sys2Proof/Config.lean ====
section
/-! DEFINITION. The free value of the model: what the manual leaves open and no rule fixes. -/

namespace Sys2Proof

/-- FREE VALUE (log 2, DESIGN CHOICE, safe). The manual gives the outcome of either order when two events are taken
at one instant (0.7.6) and does not say which the node takes first. The rank a timed event has in the `n`-th such
choice; the event of the smaller rank is taken first. It has no body, so nothing can be proved of its values. -/
opaque Config.takeRank : Nat → Instr → Nat

end Sys2Proof
end

