-- ==== Sys2Proof/Machine/Types.lean ====
section
/-! DEFINITION. The types of the state's parts: indexed families, bank records, leg records, monitors, channels, report
records, frames and the state each block owns (00_scope.md Table 1). -/

namespace Sys2Proof.Machine

/-! ## Families indexed by leg, switch, channel, strobe and record class -/

/-- One value for each of the six legs. -/
structure PerLeg (α : Type) where
  l0 : α
  l1 : α
  l2 : α
  l3 : α
  l4 : α
  l5 : α
  deriving DecidableEq, Repr

/-- One value for each switch of a leg. -/
structure PerSwitch (α : Type) where
  upper : α
  lower : α
  deriving DecidableEq, Repr

/-- One value for each of the four fault channels. -/
structure PerChan (α : Type) where
  c0 : α
  c1 : α
  c2 : α
  c3 : α
  deriving DecidableEq, Repr

/-- One value for each of the two strobes. -/
structure PerStrobe (α : Type) where
  s0 : α
  s1 : α
  deriving DecidableEq, Repr

/-- The value of leg `i`. -/
def PerLeg.get {α : Type} (v : PerLeg α) (i : LegId) : α :=
  match i with
  | .l0 => v.l0
  | .l1 => v.l1
  | .l2 => v.l2
  | .l3 => v.l3
  | .l4 => v.l4
  | .l5 => v.l5

/-- The family with leg `i`'s value replaced. -/
def PerLeg.set {α : Type} (v : PerLeg α) (i : LegId) (x : α) : PerLeg α :=
  match i with
  | .l0 => { v with l0 := x }
  | .l1 => { v with l1 := x }
  | .l2 => { v with l2 := x }
  | .l3 => { v with l3 := x }
  | .l4 => { v with l4 := x }
  | .l5 => { v with l5 := x }

/-- The family whose value at leg `i` is `f i`. -/
def PerLeg.tabulate {α : Type} (f : LegId → α) : PerLeg α :=
  { l0 := f .l0, l1 := f .l1, l2 := f .l2, l3 := f .l3, l4 := f .l4, l5 := f .l5 }

/-- The value of a switch. -/
def PerSwitch.get {α : Type} (v : PerSwitch α) (i : Switch) : α :=
  match i with
  | .upper => v.upper
  | .lower => v.lower

/-- The pair with one switch's value replaced. -/
def PerSwitch.set {α : Type} (v : PerSwitch α) (i : Switch) (x : α) : PerSwitch α :=
  match i with
  | .upper => { v with upper := x }
  | .lower => { v with lower := x }

/-- The value of channel `i`. -/
def PerChan.get {α : Type} (v : PerChan α) (i : ChanId) : α :=
  match i with
  | .c0 => v.c0
  | .c1 => v.c1
  | .c2 => v.c2
  | .c3 => v.c3

/-- The family with channel `i`'s value replaced. -/
def PerChan.set {α : Type} (v : PerChan α) (i : ChanId) (x : α) : PerChan α :=
  match i with
  | .c0 => { v with c0 := x }
  | .c1 => { v with c1 := x }
  | .c2 => { v with c2 := x }
  | .c3 => { v with c3 := x }

/-- The family whose value at channel `i` is `f i`. -/
def PerChan.tabulate {α : Type} (f : ChanId → α) : PerChan α :=
  { c0 := f .c0, c1 := f .c1, c2 := f .c2, c3 := f .c3 }

/-- The value of strobe `i`. -/
def PerStrobe.get {α : Type} (v : PerStrobe α) (i : StrobeId) : α :=
  match i with
  | .s0 => v.s0
  | .s1 => v.s1

/-- The pair with one strobe's value replaced. -/
def PerStrobe.set {α : Type} (v : PerStrobe α) (i : StrobeId) (x : α) : PerStrobe α :=
  match i with
  | .s0 => { v with s0 := x }
  | .s1 => { v with s1 := x }

/-- The six legs in number order. -/
def allLegs : List LegId := [.l0, .l1, .l2, .l3, .l4, .l5]

/-- The four channels in number order. -/
def allChans : List ChanId := [.c0, .c1, .c2, .c3]

/-- The two strobes in number order. -/
def allStrobes : List StrobeId := [.s0, .s1]

/-- The twelve switches, by leg number and upper before lower. -/
def allSwitches : List (LegId × Switch) := allLegs.flatMap fun l => [(l, .upper), (l, .lower)]

/-- The other switch of the same leg. -/
def otherSwitch : Switch → Switch
  | .upper => .lower
  | .lower => .upper

/-- A set of legs, one Bool per leg. -/
abbrev LegSet := PerLeg Bool

/-- A set of fault channels, one Bool per channel. -/
abbrev ChanSet := PerChan Bool

/-- The empty set of legs. -/
def LegSet.empty : LegSet := PerLeg.tabulate fun _ => false

/-- The empty set of channels. -/
def ChanSet.empty : ChanSet := PerChan.tabulate fun _ => false

/-- Whether a set of legs has no member. -/
def LegSet.isEmpty (v : LegSet) : Bool := allLegs.all fun l => !v.get l

/-- Whether a set of channels has no member. -/
def ChanSet.isEmpty (v : ChanSet) : Bool := allChans.all fun n => !v.get n

/-- The set of one channel. -/
def ChanSet.single (n : ChanId) : ChanSet := ChanSet.empty.set n true

/-- A set as the bits of a byte: bit i stands for leg i (R193). -/
def LegSet.bits (v : LegSet) : BitVec 6 :=
  BitVec.ofBool v.l5 ++ BitVec.ofBool v.l4 ++ BitVec.ofBool v.l3 ++ BitVec.ofBool v.l2 ++ BitVec.ofBool v.l1 ++
    BitVec.ofBool v.l0

/-- The set named by bits 5:0 of a byte (R193). -/
def LegSet.ofByte (b : Byte) : LegSet :=
  { l0 := b.getLsbD 0, l1 := b.getLsbD 1, l2 := b.getLsbD 2, l3 := b.getLsbD 3, l4 := b.getLsbD 4, l5 := b.getLsbD 5 }

/-! ## Banks (07, Tables 31 to 34) -/

/-- MODE of a leg (Table 31). -/
inductive LegMode
  | disabled | complementary | single
  deriving DecidableEq, Repr

/-- OVERLONG-ACTION (Table 31). -/
inductive OverlongAction
  | off | trip
  deriving DecidableEq, Repr

/-- FB-POLARITY (Table 31, R73). -/
inductive Polarity
  | highOn | lowOn
  deriving DecidableEq, Repr

/-- CAPTURE (Table 31). -/
inductive Capture
  | off | edges
  deriving DecidableEq, Repr

/-- COAST (Table 31). -/
inductive Coast
  | hold | off
  deriving DecidableEq, Repr

/-- SAFE-STATE (Table 31). -/
inductive SafeState
  | allOff | clampLower | clampUpper
  deriving DecidableEq, Repr

/-- A leg record of a bank (Table 31). The widths hold the whole range of each field; the ranges that are narrower
(LEG-ADDRESS, MAX-ON) are judged by WRITE (R130). -/
structure LegRecord where
  mode            : LegMode
  address         : Byte
  deadUpper       : BitVec 10
  deadLower       : BitVec 10
  minOn           : BitVec 10
  maxOn           : BitVec 24
  overlongAction  : OverlongAction
  confirmWindow   : BitVec 10
  gapWaitsConfirm : Bool
  disagreeFilter  : Byte
  polarity        : Polarity
  capture         : Capture
  coast           : Coast
  safeState       : SafeState
  deriving DecidableEq, Repr

/-- A strobe record of a bank (Table 32). -/
structure StrobeRecord where
  address    : Byte
  pulseWidth : Byte
  deriving DecidableEq, Repr

/-- USE of a protection entry (Table 33). -/
inductive Use
  | unused | active
  deriving DecidableEq, Repr

/-- ACTION of a protection entry (Table 33). -/
inductive ProtAction
  | tripLegs | haltNode
  deriving DecidableEq, Repr

/-- LATCH of a protection entry (Table 33). -/
inductive Latch
  | latched | auto
  deriving DecidableEq, Repr

/-- A protection entry of a bank (Tables 23 and 33). -/
structure ProtEntry where
  use         : Use
  assertLevel : Level
  fast        : Bool
  qualify     : Byte
  legs        : LegSet
  action      : ProtAction
  latch       : Latch
  hold        : Half
  deriving DecidableEq, Repr

/-- CONFIRM-ESCALATION (Table 34). -/
inductive Escalation
  | leg | node
  deriving DecidableEq, Repr

/-- The node record of a bank (Table 34). -/
structure NodeRecord where
  syncTolerance     : BitVec 10
  missLimit         : BitVec 4
  delayComp         : Half
  captureReports    : Bool
  confirmEscalation : Escalation
  deriving DecidableEq, Repr

/-- One bank: a complete table set (section 7.1). -/
structure Bank where
  legs    : PerLeg LegRecord
  strobes : PerStrobe StrobeRecord
  prot    : PerChan ProtEntry
  node    : NodeRecord
  deriving DecidableEq, Repr

/-- Names of the two banks. -/
inductive BankName
  | a | b
  deriving DecidableEq, Repr

/-! ## Legs (02, Table 9) -/

/-- The reasons a leg is in SAFE (Table 9, CAUSES). -/
structure Causes where
  fi       : ChanSet
  confirm  : Bool
  overlong : Bool
  nodeHalt : Bool
  deriving DecidableEq, Repr

/-- One cause of a leg (R42). -/
inductive LegCause
  | fi (n : ChanId) | confirm | overlong | nodeHalt
  deriving DecidableEq, Repr

/-- SAFE-PHASE (Table 9). SETTLING holds SETTLE-END and whether the LGE has found it reached (R2). -/
inductive SafePhase
  | opened
  | settling (settleEnd : Time) (reached : Bool)
  | clamped
  deriving DecidableEq, Repr

/-- STATE of a leg with the fields Table 9 says are present in it. -/
inductive LegCond
  /-- OFF. -/
  | off
  /-- UPPER or LOWER: the conducting switch, ON-SINCE, MIN-ON-END, MAX-ON-END and DEFERRED. -/
  | on (side : Switch) (onSince : Time) (minOnEnd maxOnEnd : Option Time) (deferred : Option Target)
  /-- GAP: the PENDING switch, GAP-END, and whether the LGE has found GAP-END reached (R2). -/
  | gap (pending : Switch) (gapEnd : Time) (reached : Bool)
  /-- HELD-OFF with HELD-BY. -/
  | heldOff (heldBy : ChanSet)
  /-- SAFE with CAUSES, SAFE-PHASE and CLAMP (NONE is `none`). -/
  | safe (causes : Causes) (phase : SafePhase) (clamp : Option Switch)
  deriving DecidableEq, Repr

/-- A leg record: its condition, LAST-OFF, and whether the leg has been off since LAST-OFF for at least the greatest
dead time a bank can hold (R2: such a LAST-OFF plus dead-time sum stays reached however long the leg idles; log 7). -/
structure Leg where
  cond    : LegCond
  lastOff : Time
  rested  : Bool
  deriving DecidableEq, Repr

/-! ## Feedback monitors (04, Table 19) -/

/-- State of a switch monitor. The expected level is `true` for "on". -/
inductive Monitor
  | idle
  | quiet
  | watching (expected : Bool) (command deadline : Time)
  | filtering (filterEnd : Time)
  | failed
  deriving DecidableEq, Repr

/-! ## Fault channels (05, Table 24) -/

/-- State of a fault channel with its DEADLINE and FORCED. QUALIFYING also keeps the FAST read at the assertion, which
R104 asks for at a swap (R89, log 8). -/
inductive Channel
  | idle
  | qualifying (deadline : Time) (fast : Bool) (forced : LegSet)
  | active
  | holding (deadline : Time)
  deriving DecidableEq, Repr

/-! ## Node state (06) -/

/-- Node state (section 6.1). -/
inductive NodeState
  | unaddressed | standby | syncing | running | halted
  deriving DecidableEq, Repr

/-- A halt cause (section 6.1). -/
inductive HaltCause
  | linkLoss | topology | confirm | fault (n : ChanId)
  deriving DecidableEq, Repr

/-- The halt-cause set: each cause at most once (section 6.1). -/
structure HaltSet where
  linkLoss : Bool
  topology : Bool
  confirm  : Bool
  fault    : ChanSet
  deriving DecidableEq, Repr

/-! ## Report records (08, Table 37; 11, Table 51) -/

/-- The record classes in priority order F, M, E, C (section 8.1). -/
inductive RecClass
  | f | m | e | c
  deriving DecidableEq, Repr

/-- BASIS of a TRIP record (R98). -/
inductive TripBasis
  | qualified | entryChanged
  deriving DecidableEq, Repr

/-- REASON of a GLITCH record (R98). -/
inductive GlitchReason
  | deasserted | entryChanged
  deriving DecidableEq, Repr

/-- BASIS of a RELEASE record (R98). -/
inductive ReleaseBasis
  | holdEnd | entryChanged
  deriving DecidableEq, Repr

/-- SOURCE of a CONFIRM-FAIL record (Table 20). -/
inductive FailSource
  | watch | disagree
  deriving DecidableEq, Repr

/-- REASON of a REJECT record (Table 14). -/
inductive RejectReason
  | kindMismatch | badTarget | badOffset | badWidth | scheduleFull
  deriving DecidableEq, Repr

/-- REASON of a DISCARD record (R65). -/
inductive DiscardReason
  | flush | coast | swap | disarm | halt
  deriving DecidableEq, Repr

/-- REASON of a CANCELLED record (R138). -/
inductive CancelReason
  | disarm | halt | restart
  deriving DecidableEq, Repr

/-- SYNC-KIND (R17). -/
inductive SyncKind
  | coast | resumed
  deriving DecidableEq, Repr

/-- FORM of a commit (R139). -/
inductive CommitForm
  | immediate | targeted
  deriving DecidableEq, Repr

/-- Status codes of responses (Table 44). -/
inductive Status
  | done | accepted | badTarget | badValue | wrongState | locked | causePresent | invalid | unknown
  deriving DecidableEq, Repr

/-- The contents of a record by kind (Table 37). -/
inductive RecBody
  | trip (chan : ChanId) (action : ProtAction) (basis : TripBasis) (legs : LegSet) (time : Time)
  | halt (cause : HaltCause) (haltSet : HaltSet) (source : NodeState) (time : Time)
  | confirmFail (leg : LegId) (switch : Switch) (source : FailSource) (expected suppressed : Bool) (time : Time)
  | overlong (leg : LegId) (switch : Switch) (action : OverlongAction) (time : Time)
  | response (manageSeq : Byte) (code : BitVec 4) (status : Status) (data : List Quad)
  | reject (cycle : Half) (index : Byte) (reason : RejectReason) (address : Byte)
  | discard (reason : DiscardReason) (count tails : Byte) (firstCycle : Half)
  | sync (kind : SyncKind) (cycle : Half) (coasted : Byte)
  | glitch (chan : ChanId) (reason : GlitchReason) (forced : LegSet) (time : Time)
  | release (chan : ChanId) (basis : ReleaseBasis) (legs : LegSet) (time : Time)
  | commitDone (form : CommitForm) (active : BankName) (cycle : Half)
  | cancelled (reason : CancelReason) (target cycle : Half)
  | edge (leg : LegId) (switch : Switch) (direction : Bool) (time : Time) (delay : Half)
  deriving DecidableEq, Repr

/-- A record: its contents and the SEQ it took when it was created (R145). -/
structure Record where
  seq  : Byte
  body : RecBody
  deriving DecidableEq, Repr

/-- The four accounting counters of one record class (R154). -/
structure Accounting where
  placed  : BitVec 32
  sent    : BitVec 32
  dropped : BitVec 32
  held    : BitVec 32
  deriving DecidableEq, Repr

/-- One value for each record class. -/
structure PerClass (α : Type) where
  f : α
  m : α
  e : α
  c : α
  deriving DecidableEq, Repr

/-- The value of a class. -/
def PerClass.get {α : Type} (v : PerClass α) (i : RecClass) : α :=
  match i with
  | .f => v.f
  | .m => v.m
  | .e => v.e
  | .c => v.c

/-- The family with one class's value replaced. -/
def PerClass.set {α : Type} (v : PerClass α) (i : RecClass) (x : α) : PerClass α :=
  match i with
  | .f => { v with f := x }
  | .m => { v with m := x }
  | .e => { v with e := x }
  | .c => { v with c := x }

/-! ## Frames (09, 11) -/

/-- The request of a MANAGE frame with its parameters (Table 50). -/
inductive Request
  | echo (data : List Quad)
  | status
  | counters (group page : Byte) (clearFlag : Bool)
  | read (bank table index : Byte)
  | write (table index : Byte) (record : List Byte)
  | copy
  | commitImmediate (disregarded : Half)
  | commitTargeted (target : Half)
  | cancel
  | arm
  | disarm
  | clear (legs : Byte)
  | resume
  | flush
  | restart
  | unknown (code : UnknownCode) (params : List Byte)
  deriving DecidableEq, Repr

/-- A downstream frame (R166). -/
inductive DownFrame
  | enum (hop : Byte)
  | cycle (frame : CycleFrame)
  | manage (head : ManageHead) (request : Request)
  deriving DecidableEq, Repr

/-- A RETURN frame: ORIGIN, BREAK and the payload in units. USED is the number of payload units (section 8.6). -/
structure ReturnFrame where
  origin  : Byte
  brk     : Byte
  payload : List Quad
  deriving DecidableEq, Repr

/-! ## Counters -/

/-- The eleven link counters of the CIU (Table 41). -/
structure LinkCounters where
  uCheckErrors       : Half
  dCheckErrors       : Half
  wrongPort          : Half
  downstreamOverflow : Half
  upstreamOverflow   : Half
  downstreamDiscards : Half
  upstreamDiscards   : Half
  uPartnerLosses     : Half
  dPartnerLosses     : Half
  returnsOriginated  : Half
  enumMismatches     : Half
  deriving DecidableEq, Repr

/-- The ten timing counters of the CTU (Table 7). -/
structure TimingCounters where
  framesAccepted : Half
  lockStarts     : Half
  earlyFrames    : Half
  lateFrames     : Half
  staleFrames    : Half
  cyclesSkipped  : Half
  coastedMarks   : Half
  periodErrors   : Half
  framesIgnored  : Half
  linkLossHalts  : Half
  deriving DecidableEq, Repr

/-- The eight entry counters of the ESU (Table 16). -/
structure EntryCounters where
  placed          : Half
  unclaimed       : Half
  rejected        : Half
  droppedUnlocked : Half
  superseded      : Half
  discarded       : Half
  strobePulses    : Half
  strobeRetrigs   : Half
  deriving DecidableEq, Repr

/-- The two counters of the LGE (R48). -/
structure LegCounters where
  refused          : Half
  deferredReplaced : Half
  deriving DecidableEq, Repr

/-- The four counters of the FBM (Table 21). -/
structure FeedbackCounters where
  confirmFailures : Half
  disagreements   : Half
  watchesReplaced : Half
  edgeOverruns    : Half
  deriving DecidableEq, Repr

/-- The four counters of the PRU (Table 26). -/
structure ProtCounters where
  assertions : Half
  glitches   : Half
  trips      : Half
  releases   : Half
  deriving DecidableEq, Repr

/-! ## The blocks' state -/

/-- Progress of the lock procedure (Table 6). -/
inductive LockStage
  | none | firstSeen | locked
  deriving DecidableEq, Repr

/-- State of the Cycle Timing Unit (Table 6). -/
structure Ctu where
  nodeTime  : Time
  cycle     : Half
  nominal   : Time
  period    : Half
  tolerance : BitVec 10
  missLimit : BitVec 4
  misses    : Nat
  lock      : LockStage
  counters  : TimingCounters
  deriving DecidableEq, Repr

/-- DESTINATION and ACTION of a schedule entry (Table 13). -/
inductive Work
  | leg (l : LegId) (t : Target)
  | strobe (s : StrobeId)
  deriving DecidableEq, Repr

/-- DESTINATION alone. -/
inductive Dest
  | leg (l : LegId)
  | strobe (s : StrobeId)
  deriving DecidableEq, Repr

/-- PART of a schedule entry (Table 13). -/
inductive Part
  | one | two
  deriving DecidableEq, Repr

/-- A schedule entry (Table 13). -/
structure SchedEntry where
  due    : Time
  work   : Work
  source : Half
  part   : Part
  deriving DecidableEq, Repr

/-- State of the Entry Scheduler (Table 12). A strobe's LEVEL is HIGH exactly while its PULSE-END is present. -/
structure Esu where
  schedule : List SchedEntry
  pulses   : PerStrobe (Option Time)
  counters : EntryCounters
  deriving DecidableEq, Repr

/-- State of the Leg Engine: six leg records and its two counters (Table 9, R48). -/
structure Lge where
  legs     : PerLeg Leg
  counters : LegCounters
  deriving DecidableEq, Repr

/-- State of the Feedback Monitor: twelve monitors, six EDGE counts, four counters (section 4.2). -/
structure Fbm where
  monitors   : PerLeg (PerSwitch Monitor)
  edgeCounts : PerLeg Nat
  counters   : FeedbackCounters
  deriving DecidableEq, Repr

/-- State of the Protection Unit (Table 24, Table 26). -/
structure Pru where
  channels : PerChan Channel
  counters : ProtCounters
  deriving DecidableEq, Repr

/-- State of the Bank Store (R127). -/
structure Bks where
  bankA   : Bank
  bankB   : Bank
  active  : BankName
  pending : Option Half
  deriving DecidableEq, Repr

/-- State of the Report Unit (R145, R147, R152, R154, R158). -/
structure Rpu where
  queue         : List Record
  nextSeq       : Byte
  accounting    : PerClass Accounting
  faultOverflow : Bool
  overFull      : Half
  deriving DecidableEq, Repr

/-- What the response store holds (R176). -/
structure Stored where
  seq    : Byte
  code   : BitVec 4
  status : Status
  data   : List Quad
  deriving DecidableEq, Repr

/-- A counter snapshot: one group with the values of every counter of the group (R176, Table 46). -/
inductive Snapshot
  | link (ciu : LinkCounters) (overFull : Half)
  | timing (ctu : TimingCounters)
  | entries (esu : EntryCounters) (lge : LegCounters) (fbm : FeedbackCounters) (pru : ProtCounters)
  | accounting (rpu : PerClass Accounting)
  deriving DecidableEq, Repr

/-- State of the Management Unit (R176). -/
structure Mgu where
  store    : Option Stored
  snapshot : Option Snapshot
  deriving DecidableEq, Repr

/-- State of Node Control (section 6.1). -/
structure Ncu where
  state  : NodeState
  causes : HaltSet
  deriving DecidableEq, Repr

/-- State of the Chain Interface Unit (Table 40). A receiver is `true` while receiving, a transmitter while sending. -/
structure Ciu where
  uPartner : Bool
  dPartner : Bool
  address  : Option Byte
  down     : List DownFrame
  up       : List ReturnFrame
  uRx      : Bool
  dRx      : Bool
  uTx      : Bool
  dTx      : Bool
  counters : LinkCounters
  deriving DecidableEq, Repr

/-- The levels last observed on the input pins: feedback inputs (R73) and fault inputs (R91). -/
structure Pins where
  feedback : PerLeg (PerSwitch Level)
  fault    : PerChan Level
  deriving DecidableEq, Repr

end Sys2Proof.Machine
end

