-- ==== Sys2Proof/Machine/Initial.lean ====
section
/-! DEFINITION. The hard-reset value of every block's state, from the reset rule of its chapter, and the defaults of
the bank records. -/

namespace Sys2Proof.Machine

/-! ## Bank defaults (Tables 31 to 34) -/

/-- The default leg record (Table 31). -/
def LegRecord.initial : LegRecord :=
  { mode := .disabled, address := 0, deadUpper := 100, deadLower := 100, minOn := 0, maxOn := 0,
    overlongAction := .off, confirmWindow := 0, gapWaitsConfirm := false, disagreeFilter := 0,
    polarity := .highOn, capture := .off, coast := .off, safeState := .allOff }

/-- The default strobe record (Table 32). -/
def StrobeRecord.initial : StrobeRecord := { address := 0, pulseWidth := 10 }

/-- The default protection entry (Tables 23 and 33). -/
def ProtEntry.initial : ProtEntry :=
  { use := .unused, assertLevel := .low, fast := false, qualify := 0, legs := LegSet.empty, action := .tripLegs,
    latch := .latched, hold := 1 }

/-- The default node record (Table 34). -/
def NodeRecord.initial : NodeRecord :=
  { syncTolerance := 50, missLimit := 3, delayComp := 0, captureReports := true, confirmEscalation := .leg }

/-- A bank at its defaults (R127). -/
def Bank.initial : Bank :=
  { legs := PerLeg.tabulate fun _ => LegRecord.initial
    strobes := { s0 := StrobeRecord.initial, s1 := StrobeRecord.initial }
    prot := PerChan.tabulate fun _ => ProtEntry.initial
    node := NodeRecord.initial }

/-! ## Counters -/

/-- Link counters after a reset (R175). -/
def LinkCounters.zero : LinkCounters :=
  { uCheckErrors := 0, dCheckErrors := 0, wrongPort := 0, downstreamOverflow := 0, upstreamOverflow := 0,
    downstreamDiscards := 0, upstreamDiscards := 0, uPartnerLosses := 0, dPartnerLosses := 0,
    returnsOriginated := 0, enumMismatches := 0 }

/-- Timing counters after a reset (R20). -/
def TimingCounters.zero : TimingCounters :=
  { framesAccepted := 0, lockStarts := 0, earlyFrames := 0, lateFrames := 0, staleFrames := 0, cyclesSkipped := 0,
    coastedMarks := 0, periodErrors := 0, framesIgnored := 0, linkLossHalts := 0 }

/-- Entry counters after a reset (R71). -/
def EntryCounters.zero : EntryCounters :=
  { placed := 0, unclaimed := 0, rejected := 0, droppedUnlocked := 0, superseded := 0, discarded := 0,
    strobePulses := 0, strobeRetrigs := 0 }

/-- LGE counters after a reset (R48). -/
def LegCounters.zero : LegCounters := { refused := 0, deferredReplaced := 0 }

/-- Feedback counters after a reset (R88). -/
def FeedbackCounters.zero : FeedbackCounters :=
  { confirmFailures := 0, disagreements := 0, watchesReplaced := 0, edgeOverruns := 0 }

/-- Protection counters after a reset (R109). -/
def ProtCounters.zero : ProtCounters := { assertions := 0, glitches := 0, trips := 0, releases := 0 }

/-- Accounting counters of a class after a reset (R162). -/
def Accounting.zero : Accounting := { placed := 0, sent := 0, dropped := 0, held := 0 }

/-- The sixteen accounting counters after a reset (R162). -/
def accountingZero : PerClass Accounting :=
  { f := Accounting.zero, m := Accounting.zero, e := Accounting.zero, c := Accounting.zero }

/-! ## Blocks -/

/-- The CTU after hard reset (R20). -/
def Ctu.initial : Ctu :=
  { nodeTime := 0, cycle := 0, nominal := 0, period := 0, tolerance := 50, missLimit := 3, misses := 0, lock := .none,
    counters := TimingCounters.zero }

/-- The ESU after hard reset (R71). -/
def Esu.initial : Esu :=
  { schedule := [], pulses := { s0 := none, s1 := none }, counters := EntryCounters.zero }

/-- A leg record after hard reset (R48). -/
def Leg.initial : Leg := { cond := .off, lastOff := 0, rested := false }

/-- The LGE after hard reset (R48). -/
def Lge.initial : Lge := { legs := PerLeg.tabulate fun _ => Leg.initial, counters := LegCounters.zero }

/-- All monitors IDLE (R85, R88). -/
def monitorsIdle : PerLeg (PerSwitch Monitor) := PerLeg.tabulate fun _ => { upper := .idle, lower := .idle }

/-- The FBM after hard reset (R88). -/
def Fbm.initial : Fbm :=
  { monitors := monitorsIdle, edgeCounts := PerLeg.tabulate fun _ => 0, counters := FeedbackCounters.zero }

/-- The PRU after hard reset (R109). -/
def Pru.initial : Pru := { channels := PerChan.tabulate fun _ => .idle, counters := ProtCounters.zero }

/-- The BKS after hard reset (R127). -/
def Bks.initial : Bks := { bankA := Bank.initial, bankB := Bank.initial, active := .a, pending := none }

/-- The RPU after hard reset (R162). -/
def Rpu.initial : Rpu :=
  { queue := [], nextSeq := 0, accounting := accountingZero, faultOverflow := false, overFull := 0 }

/-- The MGU after hard reset (R176). -/
def Mgu.initial : Mgu := { store := none, snapshot := none }

/-- The empty halt-cause set (R111). -/
def HaltSet.empty : HaltSet := { linkLoss := false, topology := false, confirm := false, fault := ChanSet.empty }

/-- The NCU after hard reset (R111, R126). -/
def Ncu.initial : Ncu := { state := .unaddressed, causes := HaltSet.empty }

/-- The CIU after hard reset (R175). The receivers and transmitters are idle: DESIGN CHOICE (log 20). -/
def Ciu.initial : Ciu :=
  { uPartner := false, dPartner := false, address := none, down := [], up := [], uRx := false, dRx := false,
    uTx := false, dTx := false, counters := LinkCounters.zero }

/-- The input pins when the model starts: DESIGN CHOICE (log 5). Feedback inputs low, which reads "off" under the
default FB-POLARITY; fault inputs high, which reads deasserted under the default ASSERT-LEVEL. -/
def Pins.initial : Pins :=
  { feedback := PerLeg.tabulate fun _ => { upper := .low, lower := .low }
    fault := PerChan.tabulate fun _ => .high }

end Sys2Proof.Machine
end

