-- ==== Sys2Proof/Machine/State.lean ====
section
/-! DEFINITION. The state of the node: the state each of its ten blocks owns (00_scope.md Table 1), the levels on its
input pins, and the model's own queue of commands. -/

namespace Sys2Proof.Machine

/-- Reasons the machine could stop with a fault. The manual describes no event on which the node stops (a trip, a halt
or a failure is an effect on its state), so no meaning raises one. -/
inductive Fault
  /-- Raised by no meaning of this model. It names the events of which the manual says that they cannot arise (R91,
  R163). The model takes such an event as one that is not taken (log 3), so nothing stops. Safe: a stop at an event
  that does not occur would hide no behaviour. -/
  | impossibleEvent
  deriving DecidableEq, Repr

/-- Reasons the machine refuses a command. -/
inductive Refusal
  /-- Raised only by an arm of `exec` whose command has no meaning yet; there is none. Safe: the run ends. -/
  | notModelled (mnemonic : String)
  deriving DecidableEq, Repr

/-- The state of the node. -/
structure State where
  /-- Cycle Timing Unit, node time with it (Table 6). -/
  ctu : Ctu
  /-- Entry Scheduler (Table 12). -/
  esu : Esu
  /-- Leg Engine (Table 9). -/
  lge : Lge
  /-- Feedback Monitor (section 4.2). -/
  fbm : Fbm
  /-- Protection Unit (Table 24). -/
  pru : Pru
  /-- Bank Store (R127). -/
  bks : Bks
  /-- Report Unit (chapter 8). -/
  rpu : Rpu
  /-- Management Unit (R176). -/
  mgu : Mgu
  /-- Node Control (section 6.1). -/
  ncu : Ncu
  /-- Chain Interface Unit (Table 40). -/
  ciu : Ciu
  /-- Levels last observed on the input pins (R73, R91). -/
  pins : Pins
  /-- The model's own: the commands that are waiting, first in, first out. -/
  pending : List Instr
  /-- The model's own: how many free choices of order have been made (log 2). -/
  freeIndex : Nat
  deriving DecidableEq, Repr

/-- The machine right after a hard reset: every block at the values of its reset rule (R20, R48, R71, R88, R109, R111,
R127, R162, R175, R176), no command waiting. -/
def State.reset : State :=
  { ctu := Ctu.initial, esu := Esu.initial, lge := Lge.initial, fbm := Fbm.initial, pru := Pru.initial,
    bks := Bks.initial, rpu := Rpu.initial, mgu := Mgu.initial, ncu := Ncu.initial, ciu := Ciu.initial,
    pins := Pins.initial, pending := [], freeIndex := 0 }

end Sys2Proof.Machine
end

