-- ==== Sys2Proof/Machine/Flags.lean ====
section
/-! DEFINITION. Time and cycle-number comparisons (0.7.1, 0.7.2), saturating counters (0.7.4), and the sets of causes
with their bit encodings (Table 52). -/

namespace Sys2Proof.Machine

/-! ## Time and cycle numbers -/

/-- Whether time value `d` has been reached at node time `now`: `now - d` modulo 2^32 lies in 0..2^31-1 (0.7.1). -/
def reached (now d : Time) : Bool := decide ((now - d).toNat < 2 ^ 31)

/-- `a - b` for cycle numbers, modulo 65,536 (0.7.2). -/
def cycleDiff (a b : Half) : Nat := (a - b).toNat

/-- Cycle number `a` is ahead of `b` (0.7.2): by 1..32,767. -/
def cycleAhead (a b : Half) : Bool := decide (1 ≤ cycleDiff a b) && decide (cycleDiff a b ≤ 32767)

/-- Cycle number `a` has reached or passed `b` (0.7.2). -/
def cycleReached (a b : Half) : Bool := decide (cycleDiff a b ≤ 32767)

/-- Cycle number `a` is behind `b` (0.7.2). -/
def cycleBehind (a b : Half) : Bool := decide (32768 ≤ cycleDiff a b)

/-! ## Counters -/

/-- A 16-bit saturating counter increased by `k` (0.7.4). -/
def satAdd (c : Half) (k : Nat) : Half := BitVec.ofNat 16 (min 65535 (c.toNat + k))

/-- A 16-bit saturating counter increased by 1 (0.7.4). -/
def satInc (c : Half) : Half := satAdd c 1

/-! ## Causes of a leg -/

/-- No cause. -/
def Causes.empty : Causes := { fi := ChanSet.empty, confirm := false, overlong := false, nodeHalt := false }

/-- The causes with one more; a cause is never held twice (R42). -/
def Causes.add (c : Causes) (x : LegCause) : Causes :=
  match x with
  | .fi n => { c with fi := c.fi.set n true }
  | .confirm => { c with confirm := true }
  | .overlong => { c with overlong := true }
  | .nodeHalt => { c with nodeHalt := true }

/-- The causes without one (R45). -/
def Causes.remove (c : Causes) (x : LegCause) : Causes :=
  match x with
  | .fi n => { c with fi := c.fi.set n false }
  | .confirm => { c with confirm := false }
  | .overlong => { c with overlong := false }
  | .nodeHalt => { c with nodeHalt := false }

/-- Whether a cause is held. -/
def Causes.has (c : Causes) (x : LegCause) : Bool :=
  match x with
  | .fi n => c.fi.get n
  | .confirm => c.confirm
  | .overlong => c.overlong
  | .nodeHalt => c.nodeHalt

/-- Whether no cause is held. -/
def Causes.isEmpty (c : Causes) : Bool := c.fi.isEmpty && !c.confirm && !c.overlong && !c.nodeHalt

/-- The bits of a CAUSES set: FI0..FI3 0..3, CONFIRM 4, OVERLONG 5, NODE-HALT 6 (Table 52). -/
def Causes.bits (c : Causes) : BitVec 7 :=
  BitVec.ofBool c.nodeHalt ++ BitVec.ofBool c.overlong ++ BitVec.ofBool c.confirm ++ BitVec.ofBool c.fi.c3 ++
    BitVec.ofBool c.fi.c2 ++ BitVec.ofBool c.fi.c1 ++ BitVec.ofBool c.fi.c0

/-! ## Halt causes -/

/-- The halt-cause set with one more (R119, R120). -/
def HaltSet.add (h : HaltSet) (x : HaltCause) : HaltSet :=
  match x with
  | .linkLoss => { h with linkLoss := true }
  | .topology => { h with topology := true }
  | .confirm => { h with confirm := true }
  | .fault n => { h with fault := h.fault.set n true }

/-- Whether a halt cause is in the set. -/
def HaltSet.has (h : HaltSet) (x : HaltCause) : Bool :=
  match x with
  | .linkLoss => h.linkLoss
  | .topology => h.topology
  | .confirm => h.confirm
  | .fault n => h.fault.get n

/-- Whether the set is empty. -/
def HaltSet.isEmpty (h : HaltSet) : Bool := !h.linkLoss && !h.topology && !h.confirm && h.fault.isEmpty

/-- The bits of a halt-cause set: LINK-LOSS 0, TOPOLOGY 1, CONFIRM 2, FAULT-0..FAULT-3 3..6 (Table 52). -/
def HaltSet.bits (h : HaltSet) : BitVec 7 :=
  BitVec.ofBool h.fault.c3 ++ BitVec.ofBool h.fault.c2 ++ BitVec.ofBool h.fault.c1 ++ BitVec.ofBool h.fault.c0 ++
    BitVec.ofBool h.confirm ++ BitVec.ofBool h.topology ++ BitVec.ofBool h.linkLoss

end Sys2Proof.Machine
end

