-- ==== Sys2Proof/Machine/Operands.lean ====
section
/-! DEFINITION. The byte layouts of chapter 11: frames with their check, entries, requests and their parameters, bank
records, report records, the stub and RETURN frames; encoders, and total readers that reject what Tables 48 and 50 and
R194 call malformed. -/

namespace Sys2Proof.Machine

/-! ## Bytes, fields and units (R193) -/

/-- Four bytes as one unit, the first the most significant (R193). -/
def quadOf (b0 b1 b2 b3 : Byte) : Quad := b0 ++ b1 ++ b2 ++ b3

/-- Two bytes as one field, the first the most significant (R193). -/
def halfOf (hi lo : Byte) : Half := hi ++ lo

/-- Byte `i` of a unit, byte 0 the most significant. -/
def quadByte (q : Quad) (i : Nat) : Byte := q.extractLsb' (24 - 8 * i) 8

/-- The bytes of a unit. -/
def quadBytes (q : Quad) : List Byte := [quadByte q 0, quadByte q 1, quadByte q 2, quadByte q 3]

/-- The bytes of a two-byte field, most significant first. -/
def halfBytes (h : Half) : List Byte := [h.extractLsb' 8 8, h.extractLsb' 0 8]

/-- The unit made of two 16-bit fields. -/
def quadOfHalves (a b : Half) : Quad := a ++ b

/-- A run of bytes as units; none when its length is no multiple of 4. -/
def quadsOfBytes : List Byte → Option (List Quad)
  | [] => some []
  | b0 :: b1 :: b2 :: b3 :: rest => (quadsOfBytes rest).map (quadOf b0 b1 b2 b3 :: ·)
  | _ => none

/-- The bytes of a run of units. -/
def bytesOfQuads (qs : List Quad) : List Byte := qs.flatMap quadBytes

/-- One unit of response data with its first bytes given and the unused ones 0 (R195). -/
def datum (b0 b1 b2 : Byte) : Quad := quadOf b0 b1 b2 0

/-! ## The frame check (R193) -/

/-- One bit fed into the check register: division by x^16 + x^12 + x^5 + 1. -/
def checkBit (reg : BitVec 16) (bit : Bool) : BitVec 16 :=
  if xor reg.msb bit then (reg <<< 1) ^^^ 0x1021#16 else reg <<< 1

/-- One content byte fed in, most significant bit first. -/
def checkByte (reg : BitVec 16) (b : Byte) : BitVec 16 :=
  [7, 6, 5, 4, 3, 2, 1, 0].foldl (fun r i => checkBit r (b.getLsbD i)) reg

/-- The check of a frame's content: the register starts at all ones and is sent without inversion. -/
def frameCheck (content : List Byte) : BitVec 16 := content.foldl checkByte 0xFFFF#16

/-- A frame's bytes between the delimiters: its content and its check, high byte first. -/
def withCheck (content : List Byte) : List Byte := content ++ halfBytes (frameCheck content)

/-- The content of a received frame whose check is good: at least 3 bytes, and the check received equals the check
formed over the content. -/
def goodContent (bytes : List Byte) : Option (List Byte) :=
  if bytes.length < 3 then none
  else
    let content := bytes.take (bytes.length - 2)
    if bytes.drop (bytes.length - 2) = halfBytes (frameCheck content) then some content else none

/-! ## Bank records (Table 53) -/

/-- Code of MODE. -/
def LegMode.code : LegMode → Byte
  | .disabled => 0
  | .complementary => 1
  | .single => 2

/-- MODE of a code; 3..255 name none (R195). -/
def LegMode.ofCode (b : Byte) : Option LegMode :=
  if b = 0 then some .disabled else if b = 1 then some .complementary else if b = 2 then some .single else none

/-- Code of SAFE-STATE. -/
def SafeState.code : SafeState → BitVec 2
  | .allOff => 0
  | .clampLower => 1
  | .clampUpper => 2

/-- SAFE-STATE of a code; 3 names none (R195). -/
def SafeState.ofCode (b : BitVec 2) : Option SafeState :=
  if b = 0 then some .allOff else if b = 1 then some .clampLower else if b = 2 then some .clampUpper else none

/-- A 10-bit field in two bytes. -/
def tenBytes (x : BitVec 10) : List Byte := halfBytes (x.setWidth 16)

/-- A two-byte field with range 0..1,023; none when the value is out of range (R130). -/
def tenOf (hi lo : Byte) : Option (BitVec 10) :=
  if (halfOf hi lo).toNat ≤ 1023 then some ((halfOf hi lo).setWidth 10) else none

/-- The 16 bytes of a leg record. -/
def encodeLegRecord (r : LegRecord) : List Byte :=
  [r.mode.code, r.address] ++ tenBytes r.deadUpper ++ tenBytes r.deadLower ++ tenBytes r.minOn ++
    quadBytes (r.maxOn.setWidth 32) ++ tenBytes r.confirmWindow ++
    [r.disagreeFilter,
      0#1 ++ r.safeState.code ++ BitVec.ofBool (decide (r.coast = .off)) ++ BitVec.ofBool (decide (r.capture = .edges)) ++
        BitVec.ofBool (decide (r.polarity = .lowOn)) ++ BitVec.ofBool r.gapWaitsConfirm ++
        BitVec.ofBool (decide (r.overlongAction = .trip))]

/-- MAX-ON: 0, or 1,000..16,000,000 (Table 31, R130). -/
def maxOnOf (q : Quad) : Option (BitVec 24) :=
  if q.toNat = 0 ∨ (1000 ≤ q.toNat ∧ q.toNat ≤ 16000000) then some (q.setWidth 24) else none

/-- The leg record carried by 16 bytes; none when a field is out of its range (R130, R195). -/
def decodeLegRecord : List Byte → Option LegRecord
  | [b0, b1, b2, b3, b4, b5, b6, b7, b8, b9, b10, b11, b12, b13, b14, b15] => do
    let mode ← LegMode.ofCode b0
    let deadUpper ← tenOf b2 b3
    let deadLower ← tenOf b4 b5
    let minOn ← tenOf b6 b7
    let maxOn ← maxOnOf (quadOf b8 b9 b10 b11)
    let confirmWindow ← tenOf b12 b13
    let safeState ← SafeState.ofCode (b15.extractLsb' 5 2)
    if b1.toNat ≤ 250 then
      some
        { mode := mode, address := b1, deadUpper := deadUpper, deadLower := deadLower, minOn := minOn, maxOn := maxOn,
          overlongAction := if b15.getLsbD 0 then .trip else .off,
          confirmWindow := confirmWindow, gapWaitsConfirm := b15.getLsbD 1, disagreeFilter := b14,
          polarity := if b15.getLsbD 2 then .lowOn else .highOn,
          capture := if b15.getLsbD 3 then .edges else .off,
          coast := if b15.getLsbD 4 then .off else .hold,
          safeState := safeState }
    else none
  | _ => none

/-- The 4 bytes of a strobe record. -/
def encodeStrobeRecord (r : StrobeRecord) : List Byte := [r.address, r.pulseWidth, 0, 0]

/-- The strobe record carried by 4 bytes; none when a field is out of its range (R130). -/
def decodeStrobeRecord : List Byte → Option StrobeRecord
  | [b0, b1, _, _] =>
    if b0.toNat ≤ 250 ∧ b1 ≠ 0 then some { address := b0, pulseWidth := b1 } else none
  | _ => none

/-- The 8 bytes of a protection entry. -/
def encodeProtEntry (r : ProtEntry) : List Byte :=
  [0#3 ++ BitVec.ofBool (decide (r.latch = .auto)) ++ BitVec.ofBool (decide (r.action = .haltNode)) ++
      BitVec.ofBool r.fast ++ BitVec.ofBool (decide (r.assertLevel = .high)) ++ BitVec.ofBool (decide (r.use = .active)),
    r.qualify, 0#2 ++ r.legs.bits, 0] ++ halfBytes r.hold ++ [0, 0]

/-- The protection entry carried by 8 bytes; none when bit 6 or 7 of LEGS is set or HOLD is 0 (R130, R195). -/
def decodeProtEntry : List Byte → Option ProtEntry
  | [b0, b1, b2, _, b4, b5, _, _] =>
    if b2.extractLsb' 6 2 = 0 ∧ halfOf b4 b5 ≠ 0 then
      some
        { use := if b0.getLsbD 0 then .active else .unused,
          assertLevel := if b0.getLsbD 1 then .high else .low,
          fast := b0.getLsbD 2,
          qualify := b1,
          legs := LegSet.ofByte b2,
          action := if b0.getLsbD 3 then .haltNode else .tripLegs,
          latch := if b0.getLsbD 4 then .auto else .latched,
          hold := halfOf b4 b5 }
    else none
  | _ => none

/-- The 8 bytes of the node record. -/
def encodeNodeRecord (r : NodeRecord) : List Byte :=
  tenBytes r.syncTolerance ++
    [r.missLimit.setWidth 8,
      0#6 ++ BitVec.ofBool (decide (r.confirmEscalation = .node)) ++ BitVec.ofBool r.captureReports] ++
    halfBytes r.delayComp ++ [0, 0]

/-- The node record carried by 8 bytes; none when SYNC-TOLERANCE or MISS-LIMIT is out of its range (R130). -/
def decodeNodeRecord : List Byte → Option NodeRecord
  | [b0, b1, b2, b3, b4, b5, _, _] => do
    let tolerance ← tenOf b0 b1
    if 1 ≤ b2.toNat ∧ b2.toNat ≤ 15 then
      some
        { syncTolerance := tolerance, missLimit := b2.setWidth 4, delayComp := halfOf b4 b5,
          captureReports := b3.getLsbD 0,
          confirmEscalation := if b3.getLsbD 1 then .node else .leg }
    else none
  | _ => none

/-! ## Tables and indexes of READ and WRITE (section 7.1, Table 50) -/

/-- A record of a bank, named by TABLE and INDEX. -/
inductive RecordName
  | leg (l : LegId) | strobe (s : StrobeId) | prot (n : ChanId) | node
  deriving DecidableEq, Repr

/-- The leg of an index. -/
def legOfIndex (i : Byte) : Option LegId :=
  if i = 0 then some .l0 else if i = 1 then some .l1 else if i = 2 then some .l2 else if i = 3 then some .l3
  else if i = 4 then some .l4 else if i = 5 then some .l5 else none

/-- The index of a leg. -/
def legIndex : LegId → Nat
  | .l0 => 0
  | .l1 => 1
  | .l2 => 2
  | .l3 => 3
  | .l4 => 4
  | .l5 => 5

/-- The index of a channel. -/
def chanIndex : ChanId → Nat
  | .c0 => 0
  | .c1 => 1
  | .c2 => 2
  | .c3 => 3

/-- The index of a strobe. -/
def strobeIndex : StrobeId → Nat
  | .s0 => 0
  | .s1 => 1

/-- The record a TABLE and an INDEX name; none when either is out of range (R129, R130). -/
def recordOf (table index : Byte) : Option RecordName :=
  if table = 0 then (legOfIndex index).map .leg
  else if table = 1 then
    (if index = 0 then some (.strobe .s0) else if index = 1 then some (.strobe .s1) else none)
  else if table = 2 then
    (if index = 0 then some (.prot .c0) else if index = 1 then some (.prot .c1)
      else if index = 2 then some (.prot .c2) else if index = 3 then some (.prot .c3) else none)
  else if table = 3 then (if index = 0 then some .node else none)
  else none

/-- TABLE and INDEX of a record. -/
def RecordName.codes : RecordName → Byte × Byte
  | .leg l => (0, BitVec.ofNat 8 (legIndex l))
  | .strobe s => (1, BitVec.ofNat 8 (strobeIndex s))
  | .prot n => (2, BitVec.ofNat 8 (chanIndex n))
  | .node => (3, 0)

/-- Whether a WRITE may carry a record of this length for its TABLE (Table 50). -/
def writeLengthOk (table : Byte) (length : Nat) : Bool :=
  if table = 0 then length == 16
  else if table = 1 then length == 4
  else if table = 2 then length == 8
  else if table = 3 then length == 8
  else decide (length ≤ 16)

/-! ## Downstream frames (Tables 48 to 50) -/

/-- Code of KIND. -/
def entryKindCode : EntryKind → BitVec 4
  | .drive => 0
  | .pulse => 1
  | .centred => 2
  | .strobe => 3

/-- KIND of a code; above 3 names none (Table 48). -/
def entryKindOfCode (b : BitVec 4) : Option EntryKind :=
  if b = 0 then some .drive else if b = 1 then some .pulse else if b = 2 then some .centred
  else if b = 3 then some .strobe else none

/-- Code of TARGET. -/
def targetCode : Target → BitVec 4
  | .off => 0
  | .upper => 1
  | .lower => 2

/-- TARGET of a code; above 2 names none (Table 48). -/
def targetOfCode (b : BitVec 4) : Option Target :=
  if b = 0 then some .off else if b = 1 then some .upper else if b = 2 then some .lower else none

/-- The 6 bytes of an entry (Table 49). -/
def encodeEntry (e : Entry) : List Byte :=
  [e.address, entryKindCode e.kind ++ targetCode e.target] ++ halfBytes e.offset ++ halfBytes e.width

/-- The entries carried by a run of bytes; none when it is no run of whole entries with defined codes. -/
def decodeEntries : List Byte → Option (List Entry)
  | [] => some []
  | a :: kt :: o1 :: o2 :: w1 :: w2 :: rest => do
    let kind ← entryKindOfCode (kt.extractLsb' 4 4)
    let target ← targetOfCode (kt.extractLsb' 0 4)
    let others ← decodeEntries rest
    some ({ address := a, kind := kind, target := target, offset := halfOf o1 o2, width := halfOf w1 w2 } :: others)
  | _ => none

/-- REQUEST code of a request (Table 50). Both forms of COMMIT are one kind. -/
def Request.code : Request → BitVec 4
  | .echo _ => 1
  | .status => 2
  | .counters _ _ _ => 3
  | .read _ _ _ => 4
  | .write _ _ _ => 5
  | .copy => 6
  | .commitImmediate _ => 7
  | .commitTargeted _ => 7
  | .cancel => 8
  | .arm => 9
  | .disarm => 10
  | .clear _ => 11
  | .resume => 12
  | .flush => 13
  | .restart => 14
  | .unknown .code0 _ => 0
  | .unknown .code15 _ => 15

/-- The parameter bytes of a request (Table 50). -/
def Request.params : Request → List Byte
  | .echo data => bytesOfQuads data
  | .status => []
  | .counters g p f => [g, p, if f then 1 else 0]
  | .read b t i => [b, t, i]
  | .write t i r => t :: i :: r
  | .copy => []
  | .commitImmediate x => 0 :: halfBytes x
  | .commitTargeted x => 1 :: halfBytes x
  | .cancel => []
  | .arm => []
  | .disarm => []
  | .clear l => [l]
  | .resume => []
  | .flush => []
  | .restart => []
  | .unknown _ p => p

/-- A request without parameters: none when bytes follow. -/
def bareRequest (r : Request) (params : List Byte) : Option Request := if params = [] then some r else none

/-- The request of a REQUEST code and parameter bytes; none when the parameter length is not one Table 50 allows the
code, or a CLEAR-FLAG or FORM byte is not 0 or 1 (Table 48). -/
def decodeRequest (code : BitVec 4) (params : List Byte) : Option Request :=
  if code = 1 then
    (if params.length ≤ 12 then (quadsOfBytes params).map .echo else none)
  else if code = 2 then bareRequest .status params
  else if code = 3 then
    (match params with
      | [g, p, f] =>
        if f = 0 then some (.counters g p false) else if f = 1 then some (.counters g p true) else none
      | _ => none)
  else if code = 4 then
    (match params with
      | [b, t, i] => some (.read b t i)
      | _ => none)
  else if code = 5 then
    (match params with
      | t :: i :: r => if writeLengthOk t r.length then some (.write t i r) else none
      | _ => none)
  else if code = 6 then bareRequest .copy params
  else if code = 7 then
    (match params with
      | [f, hi, lo] =>
        if f = 0 then some (.commitImmediate (halfOf hi lo))
        else if f = 1 then some (.commitTargeted (halfOf hi lo)) else none
      | _ => none)
  else if code = 8 then bareRequest .cancel params
  else if code = 9 then bareRequest .arm params
  else if code = 10 then bareRequest .disarm params
  else if code = 11 then
    (match params with
      | [l] => some (.clear l)
      | _ => none)
  else if code = 12 then bareRequest .resume params
  else if code = 13 then bareRequest .flush params
  else if code = 14 then bareRequest .restart params
  else if params.length ≤ 64 then some (.unknown (if code = 0 then .code0 else .code15) params)
  else none

/-- The content bytes of a downstream frame (Table 49). -/
def DownFrame.content : DownFrame → List Byte
  | .enum hop => [1, hop]
  | .cycle f =>
    [2, BitVec.ofNat 8 f.entries.length] ++ halfBytes f.number ++ halfBytes f.period ++ f.entries.flatMap encodeEntry
  | .manage h r => [3, h.dest, h.seq, h.spare ++ r.code] ++ r.params

/-- A downstream frame's bytes between the delimiters. -/
def DownFrame.wire (f : DownFrame) : List Byte := withCheck f.content

/-- The form test of Table 48 on a downstream frame's fields: at most 64 entries, and a parameter length that Table 50
allows the request. -/
def DownFrame.formOk : DownFrame → Bool
  | .enum _ => true
  | .cycle f => decide (f.entries.length ≤ 64)
  | .manage _ (.echo data) => decide (data.length ≤ 3)
  | .manage _ (.write t _ r) => writeLengthOk t r.length
  | .manage _ (.unknown _ p) => decide (p.length ≤ 64)
  | .manage _ .status => true
  | .manage _ (.counters _ _ _) => true
  | .manage _ (.read _ _ _) => true
  | .manage _ .copy => true
  | .manage _ (.commitImmediate _) => true
  | .manage _ (.commitTargeted _) => true
  | .manage _ .cancel => true
  | .manage _ .arm => true
  | .manage _ .disarm => true
  | .manage _ (.clear _) => true
  | .manage _ .resume => true
  | .manage _ .flush => true
  | .manage _ .restart => true

/-! ## RETURN frames (R194) -/

/-- The length in units of a payload item, read from its first unit; none when byte 0 names no kind of Table 51 or the
LENGTH field is not one its class allows (R194). -/
def itemLength (q : Quad) : Option Nat :=
  let kind := (quadByte q 0).toNat
  let length := ((quadByte q 1).extractLsb' 0 3).toNat
  if kind = 1 then some 1
  else if (17 ≤ kind ∧ kind ≤ 20) ∨ (33 ≤ kind ∧ kind ≤ 39) then (if length = 2 then some 2 else none)
  else if kind = 49 then (if length = 3 then some 3 else none)
  else if 128 ≤ kind ∧ kind ≤ 143 then (if 1 ≤ length ∧ length ≤ 5 then some length else none)
  else none

/-- Whether a payload reads as a run of items that ends exactly at its last unit (R194). `fuel` bounds the items. -/
def itemsOk : Nat → List Quad → Bool
  | _, [] => true
  | 0, _ :: _ => false
  | fuel + 1, q :: rest =>
    match itemLength q with
    | none => false
    | some n => decide (n ≤ rest.length + 1) && itemsOk fuel (rest.drop (n - 1))

/-- Whether a payload's first item is a stub when it has one (R194). -/
def firstIsStub : List Quad → Bool
  | [] => true
  | q :: _ => decide (quadByte q 0 = 1)

/-- Whether a RETURN frame is well formed (R194). -/
def ReturnFrame.formOk (f : ReturnFrame) : Bool :=
  decide (f.payload.length ≤ 64) && decide (f.origin.toNat ≤ 16) && decide (f.brk.toNat ≤ 16) &&
    itemsOk f.payload.length f.payload && firstIsStub f.payload

/-- The content bytes of a RETURN frame (R194). -/
def ReturnFrame.content (f : ReturnFrame) : List Byte :=
  [4, f.origin, f.brk, BitVec.ofNat 8 f.payload.length] ++ bytesOfQuads f.payload

/-- A RETURN frame's bytes between the delimiters. -/
def ReturnFrame.wire (f : ReturnFrame) : List Byte := withCheck f.content

/-! ## Judging a received frame (R166, R172, Table 48) -/

/-- A received frame as its port judges it. -/
inductive Heard
  /-- Check bad, or malformed. -/
  | bad
  /-- Check good and well formed, kind ENUM, CYCLE or MANAGE. -/
  | down (f : DownFrame)
  /-- Check good and well formed, kind RETURN. -/
  | up (f : ReturnFrame)
  deriving DecidableEq, Repr

/-- A CYCLE frame from the bytes after byte 0. -/
def hearCycle : List Byte → Heard
  | n :: n1 :: n0 :: p1 :: p0 :: body =>
    match decodeEntries body with
    | some es =>
      if n.toNat ≤ 64 ∧ es.length = n.toNat then
        .down (.cycle { number := halfOf n1 n0, period := halfOf p1 p0, entries := es })
      else .bad
    | none => .bad
  | _ => .bad

/-- A MANAGE frame from the bytes after byte 0. -/
def hearManage : List Byte → Heard
  | dest :: seq :: b3 :: params =>
    match decodeRequest (b3.extractLsb' 0 4) params with
    | some r => .down (.manage { dest := dest, seq := seq, spare := b3.extractLsb' 4 4 } r)
    | none => .bad
  | _ => .bad

/-- A RETURN frame from the bytes after byte 0. -/
def hearReturn : List Byte → Heard
  | origin :: brk :: used :: body =>
    match quadsOfBytes body with
    | some payload =>
      if used.toNat = payload.length ∧ ReturnFrame.formOk { origin := origin, brk := brk, payload := payload } then
        .up { origin := origin, brk := brk, payload := payload }
      else .bad
    | none => .bad
  | _ => .bad

/-- A frame's content judged by its first byte (Table 48). -/
def hearContent : List Byte → Heard
  | [] => .bad
  | kind :: rest =>
    if kind = 1 then
      (match rest with
        | [hop] => .down (.enum hop)
        | _ => .bad)
    else if kind = 2 then hearCycle rest
    else if kind = 3 then hearManage rest
    else if kind = 4 then hearReturn rest
    else .bad

/-- The bytes received between two delimiters, judged: first the check, then the form (R193). -/
def hear (bytes : List Byte) : Heard :=
  match goodContent bytes with
  | some content => hearContent content
  | none => .bad

/-! ## Records (Tables 51 and 52) -/

/-- Class of a record kind (Table 37). -/
def RecBody.cls : RecBody → RecClass
  | .trip _ _ _ _ _ => .f
  | .halt _ _ _ _ => .f
  | .confirmFail _ _ _ _ _ _ => .f
  | .overlong _ _ _ _ => .f
  | .response _ _ _ _ => .m
  | .reject _ _ _ _ => .e
  | .discard _ _ _ _ => .e
  | .sync _ _ _ => .e
  | .glitch _ _ _ _ => .e
  | .release _ _ _ _ => .e
  | .commitDone _ _ _ => .e
  | .cancelled _ _ _ => .e
  | .edge _ _ _ _ _ => .c

/-- Class of a record. -/
def Record.cls (r : Record) : RecClass := r.body.cls

/-- LENGTH of a record in units (Table 37, R146). -/
def RecBody.length : RecBody → Nat
  | .response _ _ _ data => 1 + data.length
  | .edge _ _ _ _ _ => 3
  | .trip _ _ _ _ _ => 2
  | .halt _ _ _ _ => 2
  | .confirmFail _ _ _ _ _ _ => 2
  | .overlong _ _ _ _ => 2
  | .reject _ _ _ _ => 2
  | .discard _ _ _ _ => 2
  | .sync _ _ _ => 2
  | .glitch _ _ _ _ => 2
  | .release _ _ _ _ => 2
  | .commitDone _ _ _ => 2
  | .cancelled _ _ _ => 2

/-- The leg of an EDGE record; none for the other kinds. -/
def RecBody.edgeLeg : RecBody → Option LegId
  | .edge l _ _ _ _ => some l
  | .trip _ _ _ _ _ => none
  | .halt _ _ _ _ => none
  | .confirmFail _ _ _ _ _ _ => none
  | .overlong _ _ _ _ => none
  | .response _ _ _ _ => none
  | .reject _ _ _ _ => none
  | .discard _ _ _ _ => none
  | .sync _ _ _ => none
  | .glitch _ _ _ _ => none
  | .release _ _ _ _ => none
  | .commitDone _ _ _ => none
  | .cancelled _ _ _ => none

/-- Byte 1 of a record: its flags in bits 7:3 and LENGTH in bits 2:0 (R194). -/
def flagByte (flags : BitVec 5) (length : Nat) : Byte := flags ++ BitVec.ofNat 3 length

/-- One flag in bit 3 of byte 1. -/
def flagBit3 (b : Bool) : BitVec 5 := 0#4 ++ BitVec.ofBool b

/-- A leg number in 3 bits. -/
def legBits (l : LegId) : BitVec 3 := BitVec.ofNat 3 (legIndex l)

/-- A channel number in 2 bits. -/
def chanBits (n : ChanId) : BitVec 2 := BitVec.ofNat 2 (chanIndex n)

/-- SWITCH: UPPER 0, LOWER 1 (Table 52). -/
def switchBit : Switch → BitVec 1
  | .upper => 0
  | .lower => 1

/-- Code of a halt cause (Table 52). -/
def HaltCause.code : HaltCause → BitVec 3
  | .linkLoss => 0
  | .topology => 1
  | .confirm => 2
  | .fault .c0 => 3
  | .fault .c1 => 4
  | .fault .c2 => 5
  | .fault .c3 => 6

/-- Code of a node state: STANDBY 0, SYNCING 1, RUNNING 2, HALTED 3 (Table 51). UNADDRESSED has no code and is sent in
no stub, HALT record or STATUS response; it is given 0 here (log 21). -/
def NodeState.code : NodeState → BitVec 2
  | .unaddressed => 0
  | .standby => 0
  | .syncing => 1
  | .running => 2
  | .halted => 3

/-- Code of REASON of a REJECT record (Table 52). -/
def RejectReason.code : RejectReason → BitVec 3
  | .kindMismatch => 0
  | .badTarget => 1
  | .badOffset => 2
  | .badWidth => 3
  | .scheduleFull => 4

/-- Code of REASON of a DISCARD record (Table 52). -/
def DiscardReason.code : DiscardReason → BitVec 3
  | .flush => 0
  | .coast => 1
  | .swap => 2
  | .disarm => 3
  | .halt => 4

/-- Code of REASON of a CANCELLED record (Table 52). -/
def CancelReason.code : CancelReason → BitVec 2
  | .disarm => 0
  | .halt => 1
  | .restart => 2

/-- Code of a status (Table 52). -/
def Status.code : Status → BitVec 4
  | .done => 0
  | .accepted => 1
  | .badTarget => 2
  | .badValue => 3
  | .wrongState => 4
  | .locked => 5
  | .causePresent => 6
  | .invalid => 7
  | .unknown => 8

/-- Bank: A 0, B 1 (Table 52). -/
def BankName.bit : BankName → BitVec 1
  | .a => 0
  | .b => 1

/-- A record in the units of Table 51. -/
def encodeRecord (r : Record) : List Quad :=
  let head (kind : Byte) (flags : BitVec 5) (b3 : Byte) : Quad := quadOf kind (flagByte flags r.body.length) r.seq b3
  match r.body with
  | .trip n action basis legs time =>
    [head 17 (0#3 ++ BitVec.ofBool (decide (basis = .entryChanged)) ++ BitVec.ofBool (decide (action = .haltNode)))
        (chanBits n ++ legs.bits), time]
  | .halt cause haltSet source time => [head 18 (source.code ++ cause.code) (0#1 ++ haltSet.bits), time]
  | .confirmFail l sw source expected suppressed time =>
    [head 19 0 (0#1 ++ BitVec.ofBool suppressed ++ BitVec.ofBool expected ++
        BitVec.ofBool (decide (source = .disagree)) ++ switchBit sw ++ legBits l), time]
  | .overlong l sw action time =>
    [head 20 0 (0#3 ++ BitVec.ofBool (decide (action = .trip)) ++ switchBit sw ++ legBits l), time]
  | .response manageSeq code status data =>
    head (8#4 ++ code) (0#1 ++ status.code) manageSeq :: data
  | .reject cycle index reason address =>
    [head 33 (0#2 ++ reason.code) index, cycle ++ address ++ 0#8]
  | .discard reason count tails firstCycle =>
    [head 34 (0#2 ++ reason.code) count, tails ++ firstCycle ++ 0#8]
  | .sync kind cycle coasted => [head 35 (flagBit3 (decide (kind = .resumed))) coasted, cycle ++ 0#16]
  | .glitch n reason forced time =>
    [head 36 (flagBit3 (decide (reason = .entryChanged))) (chanBits n ++ forced.bits), time]
  | .release n basis legs time =>
    [head 37 (flagBit3 (decide (basis = .entryChanged))) (chanBits n ++ legs.bits), time]
  | .commitDone form active cycle =>
    [head 38 (0#3 ++ active.bit ++ BitVec.ofBool (decide (form = .targeted))) 0, cycle ++ 0#16]
  | .cancelled reason target cycle => [head 39 (0#3 ++ reason.code) 0, target ++ cycle]
  | .edge l sw direction time delay =>
    [head 49 0 (0#3 ++ BitVec.ofBool direction ++ switchBit sw ++ legBits l), time, delay ++ 0#16]

/-- The stub (R155, Table 51). -/
def encodeStub (address : Byte) (state : NodeState) (safeLegs : LegSet) (depth : Nat)
    (faultOverflow commitPending : Bool) : Quad :=
  quadOf 1 (BitVec.ofBool faultOverflow ++ state.code ++ address.setWidth 5)
    (0#1 ++ BitVec.ofBool commitPending ++ safeLegs.bits) (BitVec.ofNat 8 depth)

end Sys2Proof.Machine
end

