-- ==== Sys2Proof/Machine/Ops.lean ====
section
/-! DEFINITION. The named operations over the state that every family shares: replacing one block's state, reading the
active bank, offering a record to the report queue (R145 to R152, R154), discarding schedule entries (R65), cancelling a
pending commit (R138) and leaving operation (R19). -/

namespace Sys2Proof.Machine

/-! ## Replacing one block's state -/

/-- Replace the CTU's state. -/
def State.setCtu (x : Ctu) (s : State) : State := { s with ctu := x }

/-- Replace the ESU's state. -/
def State.setEsu (x : Esu) (s : State) : State := { s with esu := x }

/-- Replace the LGE's state. -/
def State.setLge (x : Lge) (s : State) : State := { s with lge := x }

/-- Replace the FBM's state. -/
def State.setFbm (x : Fbm) (s : State) : State := { s with fbm := x }

/-- Replace the PRU's state. -/
def State.setPru (x : Pru) (s : State) : State := { s with pru := x }

/-- Replace the BKS's state. -/
def State.setBks (x : Bks) (s : State) : State := { s with bks := x }

/-- Replace the RPU's state. -/
def State.setRpu (x : Rpu) (s : State) : State := { s with rpu := x }

/-- Replace the MGU's state. -/
def State.setMgu (x : Mgu) (s : State) : State := { s with mgu := x }

/-- Replace the NCU's state. -/
def State.setNcu (x : Ncu) (s : State) : State := { s with ncu := x }

/-- Replace the CIU's state. -/
def State.setCiu (x : Ciu) (s : State) : State := { s with ciu := x }

/-- Replace the levels last observed on the input pins. -/
def State.setPins (x : Pins) (s : State) : State := { s with pins := x }

/-- Replace the queue of waiting commands. -/
def State.setPending (x : List Instr) (s : State) : State := { s with pending := x }

/-- Replace the count of free choices made. -/
def State.setFreeIndex (x : Nat) (s : State) : State := { s with freeIndex := x }

/-! ## Readings -/

/-- Node time. -/
def State.now (s : State) : Time := s.ctu.nodeTime

/-- The active bank (R127, R128). -/
def State.activeBank (s : State) : Bank :=
  match s.bks.active with
  | .a => s.bks.bankA
  | .b => s.bks.bankB

/-- The shadow bank (R127). -/
def State.shadowBank (s : State) : Bank :=
  match s.bks.active with
  | .a => s.bks.bankB
  | .b => s.bks.bankA

/-- The other letter. -/
def otherBank : BankName → BankName
  | .a => .b
  | .b => .a

/-- Leg `l`'s parameters in the active bank (R22). -/
def State.legParams (l : LegId) (s : State) : LegRecord := s.activeBank.legs.get l

/-- Channel `n`'s entry in the active bank (R89). -/
def State.protParams (n : ChanId) (s : State) : ProtEntry := s.activeBank.prot.get n

/-- The node record of the active bank (R16, R81, R83). -/
def State.nodeParams (s : State) : NodeRecord := s.activeBank.node

/-- Leg `l`'s record. -/
def State.leg (l : LegId) (s : State) : Leg := s.lge.legs.get l

/-- The monitor of a switch. -/
def State.monitor (l : LegId) (sw : Switch) (s : State) : Monitor := (s.fbm.monitors.get l).get sw

/-- Channel `n`'s record. -/
def State.channel (n : ChanId) (s : State) : Channel := s.pru.channels.get n

/-- Whether a mode enables its leg (R90, R132). -/
def LegMode.enabled : LegMode → Bool
  | .disabled => false
  | .complementary => true
  | .single => true

/-- Whether leg `l` is enabled in the active bank. -/
def State.legEnabled (l : LegId) (s : State) : Bool := (s.legParams l).mode.enabled

/-- The set of legs whose record satisfies a test. -/
def legSetWhere (p : LegId → Bool) : LegSet := PerLeg.tabulate p

/-- The enabled legs (R90). -/
def State.enabledLegs (s : State) : LegSet := legSetWhere fun l => s.legEnabled l

/-- Whether a leg condition is SAFE. -/
def LegCond.isSafe : LegCond → Bool
  | .off => false
  | .on _ _ _ _ _ => false
  | .gap _ _ _ => false
  | .heldOff _ => false
  | .safe _ _ _ => true

/-- The causes a leg condition holds; none outside SAFE (Table 9). -/
def LegCond.causes : LegCond → Causes
  | .off => Causes.empty
  | .on _ _ _ _ _ => Causes.empty
  | .gap _ _ _ => Causes.empty
  | .heldOff _ => Causes.empty
  | .safe c _ _ => c

/-- The legs whose STATE is SAFE (R155). -/
def State.safeLegs (s : State) : LegSet := legSetWhere fun l => (s.leg l).cond.isSafe

/-- The legs whose CAUSES holds a cause. -/
def State.legsHolding (x : LegCause) (s : State) : LegSet := legSetWhere fun l => (s.leg l).cond.causes.has x

/-- Level of one gate output from the leg's condition (R21's table); `true` is on. -/
def LegCond.drives (c : LegCond) (sw : Switch) : Bool :=
  match c with
  | .off => false
  | .on side _ _ _ _ => decide (side = sw)
  | .gap _ _ _ => false
  | .heldOff _ => false
  | .safe _ .opened _ => false
  | .safe _ (.settling _ _) _ => false
  | .safe _ .clamped none => false
  | .safe _ .clamped (some side) => decide (side = sw)

/-- The commanded level of a switch (R73). -/
def State.commanded (l : LegId) (sw : Switch) (s : State) : Bool := (s.leg l).cond.drives sw

/-- Whether a feedback level shows "on" under a polarity (R73). -/
def readsOn (p : Polarity) (v : Level) : Bool :=
  match p, v with
  | .highOn, .high => true
  | .highOn, .low => false
  | .lowOn, .high => false
  | .lowOn, .low => true

/-- The reading of a switch's feedback input, `true` for "on" (R73). -/
def State.feedbackOn (l : LegId) (sw : Switch) (s : State) : Bool :=
  readsOn (s.legParams l).polarity ((s.pins.feedback.get l).get sw)

/-- Whether channel `n`'s input reads asserted under an entry (R91). -/
def entryReadsAsserted (e : ProtEntry) (v : Level) : Bool := decide (e.use = .active) && decide (v = e.assertLevel)

/-- Whether channel `n`'s input reads asserted (R91). -/
def State.faultAsserted (n : ChanId) (s : State) : Bool := entryReadsAsserted (s.protParams n) (s.pins.fault.get n)

/-- Run an operation for each leg in number order (log 9). -/
def forLegs (f : LegId → State → State) (s : State) : State := allLegs.foldl (fun t l => f l t) s

/-- Run an operation for each leg of a set, in number order (log 9). -/
def forLegsIn (v : LegSet) (f : LegId → State → State) (s : State) : State :=
  forLegs (fun l t => if v.get l then f l t else t) s

/-- Run an operation for each switch, by leg and upper before lower (log 9). -/
def forSwitches (f : LegId → Switch → State → State) (s : State) : State :=
  forLegs (fun l t => f l .lower (f l .upper t)) s

/-- Run an operation for each channel in number order. -/
def forChans (f : ChanId → State → State) (s : State) : State := allChans.foldl (fun t n => f n t) s

/-! ## Replacing parts of a block's state -/

/-- Replace leg `l`'s record without telling the FBM. -/
def State.setLeg (l : LegId) (x : Leg) (s : State) : State :=
  s.setLge { s.lge with legs := s.lge.legs.set l x }

/-- Replace a switch's monitor. -/
def State.setMonitor (l : LegId) (sw : Switch) (m : Monitor) (s : State) : State :=
  s.setFbm { s.fbm with monitors := s.fbm.monitors.set l ((s.fbm.monitors.get l).set sw m) }

/-- Replace all monitors by IDLE (R85). -/
def State.idleMonitors (s : State) : State := s.setFbm { s.fbm with monitors := monitorsIdle }

/-- Replace channel `n`'s record. -/
def State.setChannel (n : ChanId) (x : Channel) (s : State) : State :=
  s.setPru { s.pru with channels := s.pru.channels.set n x }

/-- Replace the schedule. -/
def State.setSchedule (x : List SchedEntry) (s : State) : State := s.setEsu { s.esu with schedule := x }

/-- Replace the node state and the halt-cause set. -/
def State.setNode (n : NodeState) (c : HaltSet) (s : State) : State := s.setNcu { state := n, causes := c }

/-- Change the timing counters (R18). -/
def State.countTiming (f : TimingCounters → TimingCounters) (s : State) : State :=
  s.setCtu { s.ctu with counters := f s.ctu.counters }

/-- Change the entry counters (R72). -/
def State.countEntries (f : EntryCounters → EntryCounters) (s : State) : State :=
  s.setEsu { s.esu with counters := f s.esu.counters }

/-- Change the LGE's counters (R48). -/
def State.countLegs (f : LegCounters → LegCounters) (s : State) : State :=
  s.setLge { s.lge with counters := f s.lge.counters }

/-- Change the feedback counters (R87). -/
def State.countFeedback (f : FeedbackCounters → FeedbackCounters) (s : State) : State :=
  s.setFbm { s.fbm with counters := f s.fbm.counters }

/-- Change the protection counters (R110). -/
def State.countProt (f : ProtCounters → ProtCounters) (s : State) : State :=
  s.setPru { s.pru with counters := f s.pru.counters }

/-- Change the link counters (R174). -/
def State.countLink (f : LinkCounters → LinkCounters) (s : State) : State :=
  s.setCiu { s.ciu with counters := f s.ciu.counters }

/-! ## The report queue -/

/-- The most records the report queue holds (R147). -/
def queueLimit : Nat := 48

/-- Split a queue at its newest record of a class; none when it holds none (R149). -/
def takeNewest (k : RecClass) : List Record → Option (Record × List Record)
  | [] => none
  | r :: rest =>
    match takeNewest k rest with
    | some (x, others) => some (x, r :: others)
    | none => if r.cls = k then some (r, rest) else none

/-- Split a queue at its oldest record of a class; none when it holds none (R153). -/
def takeOldest (k : RecClass) : List Record → Option (Record × List Record)
  | [] => none
  | r :: rest =>
    if r.cls = k then some (r, rest)
    else
      match takeOldest k rest with
      | some (x, others) => some (x, r :: others)
      | none => none

/-- The classes a record of a class may evict from, in the order tried (R148 to R150). -/
def evictable : RecClass → List RecClass
  | .f => [.c, .e, .m]
  | .m => [.c, .e]
  | .e => []
  | .c => []

/-- The record an offer evicts from a full queue, with the records left; none when it may evict none. -/
def chooseVictim : List RecClass → List Record → Option (Record × List Record)
  | [], _ => none
  | k :: others, q =>
    match takeNewest k q with
    | some x => some x
    | none => chooseVictim others q

/-- The head of the queue in removal order, with the records left (R153). -/
def removalHead (q : List Record) : Option (Record × List Record) :=
  match takeOldest .f q with
  | some x => some x
  | none =>
    match takeOldest .m q with
    | some x => some x
    | none =>
      match takeOldest .e q with
      | some x => some x
      | none => takeOldest .c q

/-- PLACED and HELD: a record taken into the queue (R154). -/
def Accounting.takenIn (a : Accounting) : Accounting := { a with placed := a.placed + 1, held := a.held + 1 }

/-- PLACED and DROPPED: a record dropped at its offer, or a capture refused by the per-leg limit (R154). -/
def Accounting.refused (a : Accounting) : Accounting := { a with placed := a.placed + 1, dropped := a.dropped + 1 }

/-- HELD to DROPPED: a record evicted (R151, R154). -/
def Accounting.evicted (a : Accounting) : Accounting := { a with held := a.held - 1, dropped := a.dropped + 1 }

/-- HELD to SENT: a record moved into a RETURN frame (R157, R154). -/
def Accounting.moved (a : Accounting) : Accounting := { a with held := a.held - 1, sent := a.sent + 1 }

/-- Change the accounting counters of one class. -/
def Rpu.account (k : RecClass) (f : Accounting → Accounting) (r : Rpu) : Rpu :=
  { r with accounting := r.accounting.set k (f (r.accounting.get k)) }

/-- Change the EDGE count of the leg a record is an EDGE record of (R84). -/
def Fbm.countEdge (b : RecBody) (f : Nat → Nat) (x : Fbm) : Fbm :=
  match b.edgeLeg with
  | some l => { x with edgeCounts := x.edgeCounts.set l (f (x.edgeCounts.get l)) }
  | none => x

/-- The RPU takes a record into the queue (R148, R154) and the FBM counts an EDGE record (R84). -/
def enqueue (r : Record) (s : State) : State :=
  (s.setRpu { s.rpu.account r.cls Accounting.takenIn with queue := s.rpu.queue ++ [r] }).setFbm
    (s.fbm.countEdge r.body (· + 1))

/-- The RPU evicts record `v`, leaving `rest` in the queue (R151), and the FBM counts an EDGE record off (R84). -/
def evict (v : Record) (rest : List Record) (s : State) : State :=
  (s.setRpu { s.rpu.account v.cls Accounting.evicted with queue := rest }).setFbm
    (s.fbm.countEdge v.body (· - 1))

/-- The RPU drops an offered record; a dropped class F record sets FAULT-OVERFLOW (R148, R150, R152). -/
def dropOffered (r : Record) (s : State) : State :=
  s.setRpu { s.rpu.account r.cls Accounting.refused with
    faultOverflow := s.rpu.faultOverflow || decide (r.cls = .f) }

/-- A record is offered to the report queue (R148 to R151, Table 38). -/
def offerRecord (r : Record) (s : State) : State :=
  if s.rpu.queue.length < queueLimit then enqueue r s
  else
    match chooseVictim (evictable r.cls) s.rpu.queue with
    | some (v, rest) => enqueue r (evict v rest s)
    | none => dropOffered r s

/-- A record takes the next SEQ (R145). -/
def advanceSeq (s : State) : State := s.setRpu { s.rpu with nextSeq := s.rpu.nextSeq + 1 }

/-- A record is created: it takes its SEQ and is offered to the report queue (R145, R147). -/
def report (b : RecBody) (s : State) : State := offerRecord { seq := s.rpu.nextSeq, body := b } (advanceSeq s)

/-- An EDGE record not created because its leg's EDGE count is 2 (R84, R154). -/
def refuseCapture (s : State) : State :=
  (s.setRpu (s.rpu.account .c Accounting.refused)).countFeedback fun c =>
    { c with edgeOverruns := satInc c.edgeOverruns }

/-! ## The schedule -/

/-- The source cycle furthest behind among some entries (R65, 0.7.2), found by comparing them in schedule order. Where the
source cycles do not all lie in one half of the cycle count, each of two can be behind the other by 0.7.2 and the manual
names no winner: which of them the comparison leaves is the model's choice (DESIGN CHOICE, log 26). -/
def furthestBehind : Half → List SchedEntry → Half
  | best, [] => best
  | best, e :: rest => furthestBehind (if cycleBehind e.source best then e.source else best) rest

/-- A discard event removes the entries that `keep` does not keep, counts them and creates one DISCARD record; it does
nothing when it finds none (R65; FIRST-CYCLE by log 26 where no source cycle is behind all the others). -/
def discardEntries (keep : SchedEntry → Bool) (reason : DiscardReason) (s : State) : State :=
  match s.esu.schedule.filter fun e => !keep e with
  | [] => s
  | e :: rest =>
    ((s.setSchedule (s.esu.schedule.filter keep)).countEntries fun c =>
        { c with discarded := satAdd c.discarded (rest.length + 1) }) |>
      report (.discard reason (BitVec.ofNat 8 (rest.length + 1))
        (BitVec.ofNat 8 ((e :: rest).filter fun x => decide (x.part = .two)).length)
        (furthestBehind e.source rest))

/-- Both strobes are driven low (R64). -/
def strobesLow (s : State) : State := s.setEsu { s.esu with pulses := { s0 := none, s1 := none } }

/-! ## Leaving operation -/

/-- The BKS cancels a pending commit and creates a CANCELLED record; it does nothing when none is pending (R138). -/
def cancelCommit (reason : CancelReason) (s : State) : State :=
  match s.bks.pending with
  | none => s
  | some target =>
    (s.setBks { s.bks with pending := none }) |> report (.cancelled reason target s.ctu.cycle)

/-- The CTU leaves operation (R19). -/
def leaveOperation (s : State) : State := s.setCtu { s.ctu with lock := .none }

end Sys2Proof.Machine
end

