-- ==== Sys2Proof/Machine/Legs.lean ====
section
/-! DEFINITION. The Leg Engine (chapter 2) with the FBM's answer to a commanded change (R75): requests, turn-ons and
turn-offs, the held-off condition, the safe state, coasting, disarming. -/

namespace Sys2Proof.Machine

/-! ## Commanded changes reach the FBM (R26, R75) -/

/-- The FBM takes a commanded change of a switch to level `level` (R75, R82, R86). An idle monitor opens no watch. With
CONFIRM-WINDOW 0 an open watch is closed without result. Otherwise a watch opens, and closes with success at once when
the input already shows the level (log 11, log 23). -/
def fbmCommand (l : LegId) (sw : Switch) (level : Bool) (s : State) : State :=
  match s.monitor l sw with
  | .idle => s
  | m =>
    if (s.legParams l).confirmWindow = 0 then s.setMonitor l sw .idle
    else
      let counted :=
        match m with
        | .watching _ _ _ => s.countFeedback fun k => { k with watchesReplaced := satInc k.watchesReplaced }
        | _ => s
      counted.setMonitor l sw
        (if s.feedbackOn l sw = level then .quiet
          else .watching level s.now (s.now + (s.legParams l).confirmWindow.setWidth 32))

/-- Report one switch's output to the FBM if it differs from the level `before` (R21). -/
def reportChange (l : LegId) (sw : Switch) (before : Bool) (s : State) : State :=
  if s.commanded l sw = before then s else fbmCommand l sw (s.commanded l sw) s

/-- The LGE replaces leg `l`'s record and reports each change of an output, upper before lower (R21, R26, log 9). -/
def putLeg (l : LegId) (x : Leg) (s : State) : State :=
  ((s.setLeg l x) |> reportChange l .upper (s.commanded l .upper)) |> reportChange l .lower (s.commanded l .lower)

/-! ## Turning on and off (R23 to R25) -/

/-- A leg record with a turn-off instant, or an instant counted as one: LAST-OFF is now (R25). -/
def Leg.offAt (now : Time) (c : LegCond) : Leg := { cond := c, lastOff := now, rested := false }

/-- Dead time of the side that is to turn on (R22). -/
def deadOf (p : LegRecord) (sw : Switch) : Time :=
  match sw with
  | .upper => p.deadUpper.setWidth 32
  | .lower => p.deadLower.setWidth 32

/-- Whether LAST-OFF plus a dead time has been reached when the sum is formed (R2, R23, log 7). -/
def sumReached (now : Time) (x : Leg) (dead : Time) : Bool := x.rested || reached now (x.lastOff + dead)

/-- The awaited switch of the confirm condition (R23). -/
def awaitedSwitch (m : LegMode) (sw : Switch) : Switch :=
  match m with
  | .disabled => otherSwitch sw
  | .complementary => otherSwitch sw
  | .single => .upper

/-- Whether a monitor is an open watch expecting "off" (section 4.4). -/
def Monitor.awaitsOff : Monitor → Bool
  | .idle => false
  | .quiet => false
  | .watching expected _ _ => !expected
  | .filtering _ => false
  | .failed => false

/-- The confirm condition for turning on a switch (R23, condition 3). -/
def confirmMet (l : LegId) (sw : Switch) (s : State) : Bool :=
  !(s.legParams l).gapWaitsConfirm || !(s.monitor l (awaitedSwitch (s.legParams l).mode sw)).awaitsOff

/-- The condition of a leg whose switch turns on by a request or at GAP-END (R24). -/
def onCond (p : LegRecord) (sw : Switch) (now : Time) : LegCond :=
  .on sw now (if p.minOn = 0 then none else some (now + p.minOn.setWidth 32))
    (if p.maxOn = 0 then none else some (now + p.maxOn.setWidth 32)) none

/-- The LGE judges the turn-on a leg waits for: a gap or a settling whose end has been reached turns its switch on when
the confirm condition is met (R23, R32, R43). -/
def judgeLeg (l : LegId) (s : State) : State :=
  let x := s.leg l
  match x.cond with
  | .gap sw _ true =>
    if confirmMet l sw s then putLeg l { x with cond := onCond (s.legParams l) sw s.now } s else s
  | .safe causes (.settling _ true) (some sw) =>
    if confirmMet l sw s then putLeg l { x with cond := .safe causes .clamped (some sw) } s else s
  | _ => s

/-! ## Ordinary requests (R27 to R31) -/

/-- The switch a target names; none for OFF. -/
def targetSwitch : Target → Option Switch
  | .off => none
  | .upper => some .upper
  | .lower => some .lower

/-- A request is refused (R27). -/
def refuseRequest (s : State) : State := s.countLegs fun k => { k with refused := satInc k.refused }

/-- A DEFERRED request is replaced or removed by a newer one (R30). -/
def replaceDeferred (s : State) : State :=
  s.countLegs fun k => { k with deferredReplaced := satInc k.deferredReplaced }

/-- The leg waits in GAP for a switch, its GAP-END formed from LAST-OFF (R28, R29, R31). -/
def gapToward (p : LegRecord) (sw : Switch) (now : Time) (x : Leg) : Leg :=
  { x with cond := .gap sw (x.lastOff + deadOf p sw) (sumReached now x (deadOf p sw)) }

/-- A request on a leg in UPPER or LOWER whose minimum on-time has elapsed (R29). -/
def requestElapsed (l : LegId) (side : Switch) (t : Target) (s : State) : State :=
  match targetSwitch t with
  | none => putLeg l (Leg.offAt s.now .off) s
  | some sw =>
    if sw = side then s
    else judgeLeg l (putLeg l (gapToward (s.legParams l) sw s.now (Leg.offAt s.now .off)) s)

/-- A request on a leg in UPPER or LOWER before MIN-ON-END (R30). -/
def requestDeferred (l : LegId) (side : Switch) (onSince : Time) (minEnd : Time) (maxEnd : Option Time)
    (deferred : Option Target) (t : Target) (s : State) : State :=
  let counted := match deferred with
    | none => s
    | some _ => replaceDeferred s
  let kept := if targetSwitch t = some side then none else some t
  counted.setLeg l { s.leg l with cond := .on side onSince (some minEnd) maxEnd kept }

/-- A request on a leg in OFF or GAP for a switch: GAP-END is formed from LAST-OFF and the turn-on is judged at once
(R28, R31). -/
def requestTurnOn (l : LegId) (sw : Switch) (s : State) : State :=
  judgeLeg l (s.setLeg l (gapToward (s.legParams l) sw s.now (s.leg l)))

/-- Whether a leg's mode refuses a target (R27, R36). -/
def modeRefuses (m : LegMode) (t : Target) : Bool :=
  match m with
  | .disabled => true
  | .complementary => false
  | .single => decide (t = .lower)

/-- An ordinary request taken on leg `l` (R27 to R31, Table 10). -/
def requestLeg (l : LegId) (t : Target) (s : State) : State :=
  if modeRefuses (s.legParams l).mode t then refuseRequest s
  else
    match (s.leg l).cond with
    | .heldOff _ => refuseRequest s
    | .safe _ _ _ => refuseRequest s
    | .off =>
      match targetSwitch t with
      | none => s
      | some sw => requestTurnOn l sw s
    | .gap _ _ _ =>
      match targetSwitch t with
      | none => s.setLeg l { s.leg l with cond := .off }
      | some sw => requestTurnOn l sw s
    | .on side _ none _ _ => requestElapsed l side t s
    | .on side onSince (some minEnd) maxEnd deferred =>
      requestDeferred l side onSince minEnd maxEnd deferred t s

/-! ## The safe state (R42 to R45) -/

/-- The clamp switch a SAFE-STATE names (R42). -/
def clampSwitch : SafeState → Option Switch
  | .allOff => none
  | .clampLower => some .lower
  | .clampUpper => some .upper

/-- Suppress the clamp of a leg in SAFE (R44). -/
def suppressClamp (l : LegId) (s : State) : State :=
  match (s.leg l).cond with
  | .safe causes .clamped clamp => putLeg l (Leg.offAt s.now (.safe causes .opened clamp)) s
  | .safe causes (.settling _ _) clamp => s.setLeg l { s.leg l with cond := .safe causes .opened clamp }
  | _ => s

/-- The node states in which no leg clamps (R44). -/
def NodeState.forbidsClamp : NodeState → Bool
  | .unaddressed => true
  | .standby => true
  | .syncing => false
  | .running => false
  | .halted => false

/-- The record of a leg that enters SAFE with causes `cs` from record `x`: `clamp` is the switch SAFE-STATE names and
`suppressed` says whether the leg is treated as having none (R42) (log 14). -/
def safeEntry (p : LegRecord) (now : Time) (cs : Causes) (clamp : Option Switch) (suppressed : Bool) (x : Leg) : Leg :=
  let conducting := match x.cond with
    | .on side _ _ _ _ => some side
    | _ => none
  match if suppressed then none else clamp with
  | none =>
    match conducting with
    | none => { x with cond := .safe cs .opened clamp }
    | some _ => Leg.offAt now (.safe cs .opened clamp)
  | some sw =>
    if conducting = some sw then { x with cond := .safe cs .clamped clamp }
    else
      let rest := match conducting with
        | none => x
        | some _ => Leg.offAt now .off
      { rest with cond := .safe cs (.settling (rest.lastOff + deadOf p sw) (sumReached now rest (deadOf p sw))) clamp }

/-- A cause is added to a leg (R42): a leg in SAFE takes it into CAUSES, any other enabled leg enters SAFE; `suppress`
is the mark of R44. A DISABLED leg is left unchanged (R37). -/
def addCause (l : LegId) (x : LegCause) (suppress : Bool) (s : State) : State :=
  if s.legEnabled l then
    match (s.leg l).cond with
    | .safe causes phase clamp =>
      let joined := s.setLeg l { s.leg l with cond := .safe (causes.add x) phase clamp }
      if suppress then suppressClamp l joined else joined
    | _ =>
      judgeLeg l
        (putLeg l
          (safeEntry (s.legParams l) s.now (Causes.empty.add x) (clampSwitch (s.legParams l).safeState)
            (suppress || s.ncu.state.forbidsClamp) (s.leg l)) s)
  else s

/-- Whether a channel's force stands on leg `l` (R94). -/
def Channel.forces (l : LegId) : Channel → Bool
  | .idle => false
  | .qualifying _ _ forced => forced.get l
  | .active => false
  | .holding _ => false

/-- The channels whose force stands on leg `l` (R45, R94). -/
def standingForces (l : LegId) (s : State) : ChanSet := PerChan.tabulate fun n => (s.channel n).forces l

/-- OFF, or HELD-OFF when channels hold the leg. -/
def heldOrOff (h : ChanSet) : LegCond := if h.isEmpty then .off else .heldOff h

/-- Leg `l`'s CAUSES become `cs`; a leg left without a cause leaves SAFE (R45). Only a leg in SAFE is changed. A leg that a
CLEAR or a RELEASE leaves NODE-HALT alone stays in SAFE until RESUME removes NODE-HALT, as R45, R101 and R106 say; the
fifth row of R123 can be read otherwise, and following those rules is the model's choice (DESIGN CHOICE, log 27). -/
def setCauses (l : LegId) (cs : Causes) (s : State) : State :=
  match (s.leg l).cond with
  | .safe _ phase clamp =>
    if cs.isEmpty then putLeg l (Leg.offAt s.now (heldOrOff (standingForces l s))) s
    else s.setLeg l { s.leg l with cond := .safe cs phase clamp }
  | _ => s

/-- Remove one cause from leg `l` if it holds it (R45). -/
def removeCause (l : LegId) (x : LegCause) (s : State) : State :=
  if (s.leg l).cond.causes.has x then setCauses l ((s.leg l).cond.causes.remove x) s else s

/-! ## Force and withdraw (R40, R41) -/

/-- A force order from channel `n` (R40). -/
def forceLeg (n : ChanId) (l : LegId) (s : State) : State :=
  if s.legEnabled l then
    match (s.leg l).cond with
    | .safe _ _ _ => s
    | .heldOff h => s.setLeg l (Leg.offAt s.now (.heldOff (h.set n true)))
    | .off => s.setLeg l (Leg.offAt s.now (.heldOff (ChanSet.single n)))
    | .gap _ _ _ => s.setLeg l (Leg.offAt s.now (.heldOff (ChanSet.single n)))
    | .on _ _ _ _ _ => putLeg l (Leg.offAt s.now (.heldOff (ChanSet.single n))) s
  else s

/-- A withdraw order from channel `n` (R41). -/
def withdrawLeg (n : ChanId) (l : LegId) (s : State) : State :=
  match (s.leg l).cond with
  | .heldOff h =>
    if h.get n then s.setLeg l { s.leg l with cond := heldOrOff (h.set n false) } else s
  | _ => s

/-! ## Orders for all legs -/

/-- The leg's part of a coast or disarm order: a conducting switch turns off, a gap ends (R39, R47). -/
def stopLeg (l : LegId) (s : State) : State :=
  match (s.leg l).cond with
  | .on _ _ _ _ _ => putLeg l (Leg.offAt s.now .off) s
  | .gap _ _ _ => s.setLeg l { s.leg l with cond := .off }
  | _ => s

/-- The coast order on the legs (R39). -/
def coastLegs (s : State) : State :=
  forLegs (fun l t => if (t.legParams l).coast = .off then stopLeg l t else t) s

/-- Every leg in SAFE is brought to phase OPEN, as on every entry into STANDBY (R47). -/
def openSafeLegs (s : State) : State := forLegs suppressClamp s

/-- The legs' part of DISARM (R47). -/
def disarmLegs (s : State) : State := forLegs (fun l t => suppressClamp l (stopLeg l t)) s

/-- The legs' part of RESTART: every leg OFF with LAST-OFF now, the counters 0 (R48). -/
def restartLegs (s : State) : State :=
  (forLegs (fun l t => putLeg l (Leg.offAt t.now .off) t) s).countLegs fun _ => LegCounters.zero

end Sys2Proof.Machine
end

