-- ==== Sys2Proof/Machine/Feedback.lean ====
section
/-! DEFINITION. Halts (R118 to R121) and the Feedback Monitor (chapter 4): observations, confirm failures,
disagreements, EDGE capture, and the monitors' answer to node states. -/

namespace Sys2Proof.Machine

/-! ## Halt orders (R119, R120) -/

/-- NODE-HALT is added to every enabled leg whose CAUSES lacks it (R46). -/
def haltLegs (s : State) : State :=
  forLegs (fun l t => if (t.leg l).cond.causes.has .nodeHalt then t else addCause l .nodeHalt false t) s

/-- A halt order taken in HALTED (R120). -/
def haltFurther (x : HaltCause) (s : State) : State :=
  let h := s.ncu.causes.add x
  haltLegs (report (.halt x h .halted s.now) (s.setNode .halted h))

/-- A halt order that moves the node to HALTED, up to the monitors (R119 steps 1 to 5). -/
def haltEnter (x : HaltCause) (s : State) : State :=
  let h := HaltSet.empty.add x
  (s.setNode .halted h) |> report (.halt x h s.ncu.state s.now) |> haltLegs |> discardEntries (fun _ => false) .halt
    |> strobesLow |> cancelCommit .halt |> leaveOperation

/-- A halt order ordered by a confirm failure: the monitors keep their states (R81, R118, R119 step 6). -/
def haltByMonitor (x : HaltCause) (s : State) : State :=
  match s.ncu.state with
  | .unaddressed => s
  | .standby => haltEnter x s
  | .syncing => haltEnter x s
  | .running => haltEnter x s
  | .halted => haltFurther x s

/-! ## Confirm failures (R80, R81) -/

/-- The state a monitor rests in once its watch has ended: IDLE when a swap has brought CONFIRM-WINDOW to 0 while the
watch ran (R86), otherwise the state given (log 22). -/
def afterWatch (l : LegId) (m : Monitor) (s : State) : Monitor :=
  if (s.legParams l).confirmWindow = 0 then .idle else m

/-- A confirm failure or disagreement of a switch is handled: CONFIRM-FAIL record, cause CONFIRM, escalation (R80,
R81). -/
def failSwitch (l : LegId) (sw : Switch) (source : FailSource) (expected suppressed : Bool) (s : State) : State :=
  let t := addCause l .confirm suppressed (report (.confirmFail l sw source expected suppressed s.now) s)
  match t.nodeParams.confirmEscalation with
  | .leg => t
  | .node => haltByMonitor .confirm t

/-- A watch reaches its deadline without success (R77). -/
def failWatch (l : LegId) (sw : Switch) (expected : Bool) (s : State) : State :=
  ((s.setMonitor l sw (afterWatch l .failed s)).countFeedback fun k =>
      { k with confirmFailures := satInc k.confirmFailures }) |>
    failSwitch l sw .watch expected (!expected)

/-- A filter end is reached with the input still disagreeing (R79). -/
def disagree (l : LegId) (sw : Switch) (s : State) : State :=
  ((s.setMonitor l sw .failed).countFeedback fun k => { k with disagreements := satInc k.disagreements }) |>
    failSwitch l sw .disagree (s.commanded l sw) (!s.commanded l sw)

/-! ## Observations (R76, R78, R82) -/

/-- An EDGE record is due for a watch closed with success on an observed edge (R83, R84). -/
def captureEdge (l : LegId) (sw : Switch) (direction : Bool) (command : Time) (s : State) : State :=
  if (s.legParams l).capture = .edges ∧ s.nodeParams.captureReports then
    if 2 ≤ s.fbm.edgeCounts.get l then refuseCapture s
    else report (.edge l sw direction s.now ((s.now - command).setWidth 16)) s
  else s

/-- A watch closes with success (R76): the off-confirm success reaches the LGE, which judges a waiting turn-on whose
awaited switch it is (R26), and then an EDGE record is offered if an edge was observed. A watch satisfied at its command
instant observes no edge (R75, R83), also where the input changes at that instant, after the command (log 11). -/
def watchSuccess (l : LegId) (sw : Switch) (expected : Bool) (command : Time) (edge : Bool) (s : State) : State :=
  let quiet := s.setMonitor l sw (afterWatch l .quiet s)
  let waiting := match (quiet.leg l).cond with
    | .gap p _ _ => some p
    | .safe _ _ clamp => clamp
    | _ => none
  let judged := match expected, waiting with
    | false, some p => if awaitedSwitch (quiet.legParams l).mode p = sw then judgeLeg l quiet else quiet
    | _, _ => quiet
  if edge && decide (s.now ≠ command) then captureEdge l sw expected command judged else judged

/-- A monitor judges one observation of its input; `edge` says whether the input has just been observed at a new level
(R73, R76, R78, R82). -/
def observe (l : LegId) (sw : Switch) (edge : Bool) (s : State) : State :=
  match s.monitor l sw with
  | .idle => s
  | .quiet =>
    if s.feedbackOn l sw = s.commanded l sw then s
    else if (s.legParams l).disagreeFilter = 0 then disagree l sw s
    else s.setMonitor l sw (.filtering (s.now + (s.legParams l).disagreeFilter.setWidth 32))
  | .watching expected command _ =>
    if s.feedbackOn l sw = expected then watchSuccess l sw expected command edge s else s
  | .filtering _ =>
    if s.feedbackOn l sw = s.commanded l sw then s.setMonitor l sw .quiet else s
  | .failed =>
    if s.feedbackOn l sw = s.commanded l sw then s.setMonitor l sw .quiet else s

/-! ## Monitors and node states (R74, R85) -/

/-- The node states in which switches are monitored (R74). -/
def NodeState.monitors : NodeState → Bool
  | .unaddressed => false
  | .standby => false
  | .syncing => true
  | .running => true
  | .halted => true

/-- Whether a leg record has a switch monitored while the node state allows it (R74, conditions 2 and 3). -/
def recordMonitors (p : LegRecord) (sw : Switch) : Bool :=
  (match p.mode with
    | .disabled => false
    | .complementary => true
    | .single => decide (sw = .upper)) && decide (p.confirmWindow ≠ 0)

/-- Whether a switch is monitored (R74). -/
def monitored (l : LegId) (sw : Switch) (s : State) : Bool :=
  s.ncu.state.monitors && recordMonitors (s.legParams l) sw

/-- Every monitored switch enters QUIET and its input is observed at that instant (R74, R85). -/
def startMonitors (s : State) : State :=
  (forSwitches (fun l sw t => if monitored l sw t then t.setMonitor l sw .quiet else t) s) |>
    forSwitches (fun l sw t => observe l sw false t)

/-! ## Halt orders from the other blocks (R118) -/

/-- A halt order taken by Node Control (R118 to R120). From STANDBY the monitored switches enter QUIET (R119 step 6);
in UNADDRESSED none is taken (R114). -/
def haltOrder (x : HaltCause) (s : State) : State :=
  match s.ncu.state with
  | .unaddressed => s
  | .standby => startMonitors (haltEnter x s)
  | .syncing => haltEnter x s
  | .running => haltEnter x s
  | .halted => haltFurther x s

end Sys2Proof.Machine
end

