-- ==== Sys2Proof/Machine/Protection.lean ====
section
/-! DEFINITION. The Protection Unit (chapter 5): assertions and forces, glitches, trips, releases, and its answer to a
swap. -/

namespace Sys2Proof.Machine

/-- The affected set of channel `n`, formed from the active bank now (R90). -/
def affectedSet (n : ChanId) (s : State) : LegSet :=
  match (s.protParams n).action with
  | .tripLegs => (s.protParams n).legs
  | .haltNode => s.enabledLegs

/-- The trip orders with cause FIn to a set of legs (R96 step 3). -/
def tripLegs (n : ChanId) (v : LegSet) (s : State) : State :=
  forLegsIn v (fun l t => addCause l (.fi n) false t) s

/-- A trip of channel `n` up to the channel itself: the TRIP record, then the trip orders, or the halt order where the
entry's ACTION is HALT-NODE and the node is addressed (R96, R97, R103). -/
def tripEffect (n : ChanId) (basis : TripBasis) (s : State) : State :=
  let v := affectedSet n s
  let recorded := report (.trip n (s.protParams n).action basis v s.now) s
  match (s.protParams n).action with
  | .tripLegs => tripLegs n v recorded
  | .haltNode =>
    match s.ncu.state with
    | .unaddressed => tripLegs n v recorded
    | .standby => haltOrder (.fault n) recorded
    | .syncing => haltOrder (.fault n) recorded
    | .running => haltOrder (.fault n) recorded
    | .halted => haltOrder (.fault n) recorded

/-- "Fault trips" increases by 1 (R110). -/
def countTrip (s : State) : State := s.countProt fun k => { k with trips := satInc k.trips }

/-- The withdraw order to a set of legs (R41). A leg in SAFE is not reached by it. -/
def withdrawLegs (n : ChanId) (v : LegSet) (s : State) : State := forLegsIn v (withdrawLeg n) s

/-- A QUALIFYING channel trips: the trip's effect, the withdraw to any leg of FORCED left in HELD-OFF, and the channel
becomes ACTIVE (R96, R97). -/
def tripChannel (n : ChanId) (forced : LegSet) (s : State) : State :=
  countTrip ((withdrawLegs n forced (tripEffect n .qualified s)).setChannel n .active)

/-- An assertion taken in IDLE (R93): QUALIFYING with its DEADLINE, the force where FAST, and the trip at once where
QUALIFY is 0. -/
def takeAssertion (n : ChanId) (s : State) : State :=
  let e := s.protParams n
  let forced := if e.fast then affectedSet n s else LegSet.empty
  let qualifying :=
    (s.setChannel n (.qualifying (s.now + e.qualify.setWidth 32) e.fast forced)).countProt fun k =>
      { k with assertions := satInc k.assertions }
  let held := forLegsIn forced (forceLeg n) qualifying
  if e.qualify = 0 then tripChannel n forced held else held

/-- A qualification ends without a trip (R95, R103): GLITCH record, withdraw, IDLE, count. -/
def glitch (n : ChanId) (reason : GlitchReason) (forced : LegSet) (s : State) : State :=
  ((withdrawLegs n forced (report (.glitch n reason forced s.now) s)).setChannel n .idle).countProt fun k =>
    { k with glitches := satInc k.glitches }

/-- A HOLDING channel releases (R101, R103): FIn leaves every leg that holds it, RELEASE record, IDLE, count. -/
def releaseChannel (n : ChanId) (basis : ReleaseBasis) (s : State) : State :=
  let v := s.legsHolding (.fi n)
  ((report (.release n basis v s.now) (forLegsIn v (fun l t => removeCause l (.fi n) t) s)).setChannel n
      .idle).countProt fun k => { k with releases := satInc k.releases }

/-- A deassertion taken in ACTIVE, handled by the entry's LATCH (R99). -/
def deassertActive (n : ChanId) (s : State) : State :=
  match (s.protParams n).latch with
  | .latched => s.setChannel n .idle
  | .auto => s.setChannel n (.holding (s.now + (s.protParams n).hold.setWidth 32))

/-- An assertion of channel `n`'s input, by the channel's STATE (R92, Table 25). In QUALIFYING and ACTIVE none can arise
(R91). -/
def channelAsserts (n : ChanId) (s : State) : State :=
  match s.channel n with
  | .idle => takeAssertion n s
  | .qualifying _ _ _ => s
  | .active => s
  | .holding _ => s.setChannel n .active

/-- A deassertion of channel `n`'s input, by the channel's STATE (R92, Table 25). In IDLE none can arise (R91), and
HOLDING has none. -/
def channelDeasserts (n : ChanId) (s : State) : State :=
  match s.channel n with
  | .idle => s
  | .qualifying _ _ forced => glitch n .deasserted forced s
  | .active => deassertActive n s
  | .holding _ => s

/-- The level that reads asserted under an entry is `assertLevel`; the other level reads deasserted. -/
def otherLevel : Level → Level
  | .low => .high
  | .high => .low

/-- Record the level observed on fault input `n` (R91). -/
def State.setFaultPin (n : ChanId) (v : Level) (s : State) : State :=
  s.setPins { s.pins with fault := s.pins.fault.set n v }

/-- Whether channel `n` is quiet (R105). -/
def channelQuiet (n : ChanId) (s : State) : Bool := decide (s.channel n = .idle) && !s.faultAsserted n

/-- The PRU reads channel `n`'s input afresh; an asserted reading is an assertion taken now (R103, R109). -/
def readInput (n : ChanId) (s : State) : State := if s.faultAsserted n then takeAssertion n s else s

/-! ## Protection and a swap (R102 to R104) -/

/-- Whether a swap changes an entry (R102). -/
def entryChanged (old new : ProtEntry) : Bool :=
  decide (old.use ≠ new.use) || decide (old.legs ≠ new.legs) || decide (old.action ≠ new.action) ||
    decide (old.assertLevel ≠ new.assertLevel)

/-- A swap that changes channel `n`'s entry (R103). -/
def swapChangedEntry (n : ChanId) (s : State) : State :=
  match s.channel n with
  | .idle => readInput n s
  | .qualifying _ _ forced => readInput n (glitch n .entryChanged forced s)
  | .holding _ => readInput n (releaseChannel n .entryChanged s)
  | .active => if s.faultAsserted n then countTrip (tripEffect n .entryChanged s) else s.setChannel n .idle

/-- The legs a swap from bank `old` enables. -/
def newlyEnabled (old : Bank) (s : State) : LegSet :=
  legSetWhere fun l => s.legEnabled l && !(old.legs.get l).mode.enabled

/-- The union of two sets of legs. -/
def LegSet.union (v w : LegSet) : LegSet := legSetWhere fun l => v.get l || w.get l

/-- A swap that leaves channel `n`'s entry unchanged: a FAST HALT-NODE channel in QUALIFYING forces the legs the swap
enables (R104). FAST is the value read at the assertion (R89, log 8). -/
def swapUnchangedEntry (old : Bank) (n : ChanId) (s : State) : State :=
  match s.channel n with
  | .qualifying deadline true forced =>
    match (s.protParams n).action with
    | .tripLegs => s
    | .haltNode =>
      forLegsIn (newlyEnabled old s) (forceLeg n)
        (s.setChannel n (.qualifying deadline true (forced.union (newlyEnabled old s))))
  | _ => s

/-- The PRU's part of a swap from bank `old`, channel by channel in number order (R102). -/
def swapChannels (old : Bank) (s : State) : State :=
  forChans (fun n t =>
    if entryChanged (old.prot.get n) (t.protParams n) then swapChangedEntry n t else swapUnchangedEntry old n t) s

end Sys2Proof.Machine
end

