-- ==== Sys2Proof/Machine/Banks.lean ====
section
/-! DEFINITION. The Bank Store (chapter 7): reading and writing records, validation V1 to V7, and the swap with its
effects on the legs, the schedule, the monitors and the channels. -/

namespace Sys2Proof.Machine

/-! ## Records of a bank (section 7.3) -/

/-- The data of one record, in the units READ answers with (R129, Table 53). -/
def readRecord (b : Bank) : RecordName → List Byte
  | .leg l => encodeLegRecord (b.legs.get l)
  | .strobe x => encodeStrobeRecord (b.strobes.get x)
  | .prot n => encodeProtEntry (b.prot.get n)
  | .node => encodeNodeRecord b.node

/-- The bank with one record replaced by the record that bytes carry; none when a field is out of its range (R130). -/
def writeRecord (b : Bank) (name : RecordName) (bytes : List Byte) : Option Bank :=
  match name with
  | .leg l => (decodeLegRecord bytes).map fun r => { b with legs := b.legs.set l r }
  | .strobe x => (decodeStrobeRecord bytes).map fun r => { b with strobes := b.strobes.set x r }
  | .prot n => (decodeProtEntry bytes).map fun r => { b with prot := b.prot.set n r }
  | .node => (decodeNodeRecord bytes).map fun r => { b with node := r }

/-- The BKS with its shadow bank replaced. -/
def Bks.withShadow (b : Bank) (x : Bks) : Bks :=
  match x.active with
  | .a => { x with bankB := b }
  | .b => { x with bankA := b }

/-! ## Validation (R132) -/

/-- The addresses V1 compares, in examination order: nonzero LEG-ADDRESS of enabled legs, then STROBE-ADDRESS of used
strobes. -/
def usedAddresses (b : Bank) : List (RecordName × Byte) :=
  (allLegs.filter fun l => (b.legs.get l).mode.enabled && decide ((b.legs.get l).address ≠ 0)).map
      (fun l => (.leg l, (b.legs.get l).address)) ++
    (allStrobes.filter fun x => decide ((b.strobes.get x).address ≠ 0)).map
      (fun x => (.strobe x, (b.strobes.get x).address))

/-- The first record whose address equals that of a record before it. -/
def firstDuplicate : List Byte → List (RecordName × Byte) → Option RecordName
  | _, [] => none
  | seen, (name, a) :: rest => if a ∈ seen then some name else firstDuplicate (a :: seen) rest

/-- The first enabled leg that fails a test. -/
def firstLeg (b : Bank) (fails : LegRecord → Bool) : Option RecordName :=
  (allLegs.find? fun l => (b.legs.get l).mode.enabled && fails (b.legs.get l)).map .leg

/-- The first ACTIVE protection entry that fails a test. -/
def firstEntry (b : Bank) (fails : ProtEntry → Bool) : Option RecordName :=
  (allChans.find? fun n => decide ((b.prot.get n).use = .active) && fails (b.prot.get n)).map .prot

/-- V1: an address is used twice. -/
def checkV1 (b : Bank) : Option RecordName := firstDuplicate [] (usedAddresses b)

/-- V2: an enabled leg has no address. -/
def checkV2 (b : Bank) : Option RecordName := firstLeg b fun r => decide (r.address = 0)

/-- V3: a SINGLE leg clamps its lower switch. -/
def checkV3 (b : Bank) : Option RecordName :=
  firstLeg b fun r => decide (r.mode = .single) && decide (r.safeState = .clampLower)

/-- V4: MAX-ON is not 0 and not greater than MIN-ON. -/
def checkV4 (b : Bank) : Option RecordName :=
  firstLeg b fun r => decide (r.maxOn ≠ 0) && decide (r.maxOn.toNat ≤ r.minOn.toNat)

/-- V5: GAP-WAITS-CONFIRM without a CONFIRM-WINDOW. -/
def checkV5 (b : Bank) : Option RecordName :=
  firstLeg b fun r => r.gapWaitsConfirm && decide (r.confirmWindow = 0)

/-- V6: a TRIP-LEGS entry with LEGS empty or naming a leg that is not enabled. -/
def checkV6 (b : Bank) : Option RecordName :=
  firstEntry b fun e =>
    decide (e.action = .tripLegs) &&
      (e.legs.isEmpty || allLegs.any fun l => e.legs.get l && !(b.legs.get l).mode.enabled)

/-- V7: a HALT-NODE entry with LATCH AUTO. -/
def checkV7 (b : Bank) : Option RecordName :=
  firstEntry b fun e => decide (e.action = .haltNode) && decide (e.latch = .auto)

/-- Validation of a bank: the reason code and the record named of the first check that fails; none when all pass. -/
def validate (b : Bank) : Option (Byte × RecordName) :=
  ((checkV1 b).map (1, ·)).or <| ((checkV2 b).map (2, ·)).or <| ((checkV3 b).map (3, ·)).or <|
    ((checkV4 b).map (4, ·)).or <| ((checkV5 b).map (5, ·)).or <| ((checkV6 b).map (6, ·)).or
      ((checkV7 b).map (7, ·))

/-! ## The swap (R139 to R143) -/

/-- A leg's condition without its DEFERRED (R38, R142). -/
def LegCond.dropDeferred : LegCond → LegCond
  | .on side onSince minEnd maxEnd _ => .on side onSince minEnd maxEnd none
  | .off => .off
  | .gap p e r => .gap p e r
  | .heldOff h => .heldOff h
  | .safe cs phase clamp => .safe cs phase clamp

/-- A swap disables leg `l` (R140). -/
def swapDisableLeg (l : LegId) (s : State) : State :=
  if s.commanded l .upper || s.commanded l .lower then putLeg l (Leg.offAt s.now .off) s
  else s.setLeg l { s.leg l with cond := .off }

/-- A swap enables leg `l` (R141). -/
def swapEnableLeg (l : LegId) (s : State) : State := s.setLeg l (Leg.offAt s.now (s.leg l).cond)

/-- A swap re-modes leg `l` from COMPLEMENTARY to SINGLE (R142); its lower monitor enters IDLE first, so the lower
turn-off opens no watch (R86) (log 19). -/
def swapToSingle (l : LegId) (s : State) : State :=
  let t := s.setMonitor l .lower .idle
  match (t.leg l).cond with
  | .on .lower _ _ _ _ => putLeg l (Leg.offAt t.now .off) t
  | .gap .lower _ _ => t.setLeg l { t.leg l with cond := .off }
  | .safe _ _ (some .lower) => suppressClamp l t
  | c => t.setLeg l { t.leg l with cond := c.dropDeferred }

/-- A swap re-modes leg `l` from SINGLE to COMPLEMENTARY: it keeps all but its DEFERRED (R142). -/
def swapToComplementary (l : LegId) (s : State) : State :=
  s.setLeg l { s.leg l with cond := (s.leg l).cond.dropDeferred }

/-- A swap's effect on leg `l`, from its old mode and the mode in the bank now active (R140 to R142). -/
def swapLeg (old : Bank) (l : LegId) (s : State) : State :=
  match (old.legs.get l).mode, (s.legParams l).mode with
  | .disabled, .disabled => s
  | .disabled, .complementary => swapEnableLeg l s
  | .disabled, .single => swapEnableLeg l s
  | .complementary, .disabled => swapDisableLeg l s
  | .complementary, .complementary => s
  | .complementary, .single => swapToSingle l s
  | .single, .disabled => swapDisableLeg l s
  | .single, .complementary => swapToComplementary l s
  | .single, .single => s

/-- The schedule entries a swap keeps: all but those of a leg it disables and of a strobe it makes unused (R68). -/
def swapKeeps (old new : Bank) (e : SchedEntry) : Bool :=
  match e.work with
  | .leg l _ => !((old.legs.get l).mode.enabled && !(new.legs.get l).mode.enabled)
  | .strobe x => !(decide ((old.strobes.get x).address ≠ 0) && decide ((new.strobes.get x).address = 0))

/-- One monitor is brought into line with the bank now active (R86) (log 10, log 22). -/
def alignMonitor (old : Bank) (l : LegId) (sw : Switch) (s : State) : State :=
  let new := s.legParams l
  if !s.ncu.state.monitors then s
  else if recordMonitors new sw then
    (if recordMonitors (old.legs.get l) sw then s else s.setMonitor l sw .quiet)
  else if recordMonitors { new with confirmWindow := 1 } sw then
    match s.monitor l sw with
    | .watching _ _ _ => s
    | _ => s.setMonitor l sw .idle
  else s.setMonitor l sw .idle

/-- The FBM's part of a swap: the monitors are brought into line, each judges the instant's observation under the new
polarity, and then the LGE judges the turn-ons that wait (R73, R86, R23) (log 11). -/
def swapMonitors (old : Bank) (s : State) : State :=
  (forSwitches (alignMonitor old) s) |> forSwitches (fun l sw t => observe l sw false t) |> forLegs judgeLeg

/-- The BKS exchanges the designations and no commit is pending (R139 step 1). -/
def exchangeBanks (s : State) : State :=
  s.setBks { s.bks with active := otherBank s.bks.active, pending := none }

/-- A swap (R139). -/
def swapBanks (form : CommitForm) (s : State) : State :=
  let old := s.activeBank
  let t := exchangeBanks s
  (report (.commitDone form t.bks.active t.ctu.cycle) t) |> forLegs (swapLeg old)
    |> discardEntries (swapKeeps old t.activeBank) .swap |> swapMonitors old |> swapChannels old

/-- The commit check of a mark in RUNNING (R15, R136). -/
def commitCheck (s : State) : State :=
  match s.bks.pending with
  | none => s
  | some target => if cycleReached s.ctu.cycle target then swapBanks .targeted s else s

end Sys2Proof.Machine
end

