-- ==== Sys2Proof/Machine/Cycle.lean ====
section
/-! DEFINITION. The Cycle Timing Unit (chapter 1) and the Entry Scheduler's decode and takes (chapter 3). -/

namespace Sys2Proof.Machine

/-! ## Decoding entries (R49 to R58) -/

/-- The destination that claims an address; none when no enabled leg or used strobe does (R50). -/
def claimant (b : Bank) (address : Byte) : Option Dest :=
  if address = 0 then none
  else
    match allLegs.find? fun l => (b.legs.get l).mode.enabled && decide ((b.legs.get l).address = address) with
    | some l => some (.leg l)
    | none => (allStrobes.find? fun x => decide ((b.strobes.get x).address = address)).map .strobe

/-- Test 1: KIND-MISMATCH (Table 14). -/
def kindMismatch (d : Dest) (k : EntryKind) : Bool :=
  match d with
  | .leg _ => decide (k = .strobe)
  | .strobe _ => decide (k ≠ .strobe)

/-- Test 2: BAD-TARGET (Table 14). -/
def badTarget (b : Bank) (d : Dest) (e : Entry) : Bool :=
  (match d with
    | .leg l => decide ((b.legs.get l).mode = .single) && decide (e.target = .lower)
    | .strobe _ => false) ||
    (decide (e.kind = .pulse ∨ e.kind = .centred) && decide (e.target = .off))

/-- Test 3: BAD-OFFSET (Table 14). -/
def badOffset (period : Half) (e : Entry) : Bool :=
  match e.kind with
  | .drive => decide (period.toNat ≤ e.offset.toNat)
  | .pulse => decide (period.toNat ≤ e.offset.toNat)
  | .centred => false
  | .strobe => decide (period.toNat ≤ e.offset.toNat)

/-- Test 4: BAD-WIDTH (Table 14). -/
def badWidth (period : Half) (e : Entry) : Bool :=
  match e.kind with
  | .drive => false
  | .pulse => decide (e.width = 0) || decide (2 * period.toNat - 1 < e.offset.toNat + e.width.toNat)
  | .centred => decide (e.width = 0) || decide (period.toNat < e.width.toNat)
  | .strobe => false

/-- The complement of a target on a leg of a mode (R55). -/
def complement (m : LegMode) (t : Target) : Target :=
  match t with
  | .off => .off
  | .upper => if m = .single then .off else .lower
  | .lower => .upper

/-- What a schedule entry asks of a destination. -/
def workOf (d : Dest) (t : Target) : Work :=
  match d with
  | .leg l => .leg l t
  | .strobe x => .strobe x

/-- The complement action at a destination (R55). -/
def complementWork (b : Bank) (d : Dest) (t : Target) : Work :=
  match d with
  | .leg l => .leg l (complement (b.legs.get l).mode t)
  | .strobe x => .strobe x

/-- The schedule entries an entry expands to (R54, Table 15). -/
def expand (b : Bank) (d : Dest) (mark : Time) (number period : Half) (e : Entry) : List SchedEntry :=
  let part1 (due : Time) : SchedEntry := { due := due, work := workOf d e.target, source := number, part := .one }
  let part2 (due : Time) : SchedEntry :=
    { due := due, work := complementWork b d e.target, source := number, part := .two }
  match e.kind with
  | .drive => [part1 (mark + e.offset.setWidth 32)]
  | .pulse =>
    [part1 (mark + e.offset.setWidth 32), part2 (mark + e.offset.setWidth 32 + e.width.setWidth 32)]
  | .centred =>
    let due := mark + BitVec.ofNat 32 ((period.toNat - e.width.toNat) / 2)
    [part1 due, part2 (due + e.width.setWidth 32)]
  | .strobe => [part1 (mark + e.offset.setWidth 32)]

/-- The destination of a schedule entry. -/
def Work.dest : Work → Dest
  | .leg l _ => .leg l
  | .strobe x => .strobe x

/-- Whether placing `e` supersedes `x`: the same destination and due time (R58). -/
def supersedes (e x : SchedEntry) : Bool := decide (x.work.dest = e.work.dest) && decide (x.due = e.due)

/-- Insert an entry at the position its DUE gives, behind every entry that is due no later (R56). -/
def insertEntry (now : Time) (e : SchedEntry) : List SchedEntry → List SchedEntry
  | [] => [e]
  | x :: rest =>
    if (x.due - now).toNat ≤ (e.due - now).toNat then x :: insertEntry now e rest else e :: x :: rest

/-- The most entries the schedule holds (R56). -/
def scheduleLimit : Nat := 64

/-- How many waiting entries the parts of an entry supersede (R57). -/
def supersededCount (parts schedule : List SchedEntry) : Nat :=
  (schedule.filter fun x => parts.any fun e => supersedes e x).length

/-- One part is placed, its supersession first (R57, R58). -/
def placePart (e : SchedEntry) (s : State) : State :=
  let kept := s.esu.schedule.filter fun x => !supersedes e x
  (s.setSchedule (insertEntry s.now e kept)).countEntries fun k =>
    { k with superseded := satAdd k.superseded (s.esu.schedule.length - kept.length) }

/-- The reason a claimed entry is rejected for by tests 1 to 4; none when it passes them (R51, Table 14). -/
def entryFault (b : Bank) (d : Dest) (period : Half) (e : Entry) : Option RejectReason :=
  if kindMismatch d e.kind then some .kindMismatch
  else if badTarget b d e then some .badTarget
  else if badOffset period e then some .badOffset
  else if badWidth period e then some .badWidth
  else none

/-- A claimed entry is rejected (R51, R53). -/
def rejectEntry (number : Half) (index : Nat) (reason : RejectReason) (e : Entry) (s : State) : State :=
  (s.countEntries fun k => { k with rejected := satInc k.rejected }) |>
    report (.reject number (BitVec.ofNat 8 index) reason e.address)

/-- One entry of an accepted frame is found unclaimed, rejected, or placed (R49 to R51, R57). -/
def decodeEntry (mark : Time) (number period : Half) (index : Nat) (e : Entry) (s : State) : State :=
  match claimant s.activeBank e.address with
  | none => s.countEntries fun k => { k with unclaimed := satInc k.unclaimed }
  | some d =>
    match entryFault s.activeBank d period e with
    | some reason => rejectEntry number index reason e s
    | none =>
      let parts := expand s.activeBank d mark number period e
      if scheduleLimit - s.esu.schedule.length + supersededCount parts s.esu.schedule < parts.length then
        rejectEntry number index .scheduleFull e s
      else
        (parts.foldl (fun t p => placePart p t) s).countEntries fun k => { k with placed := satInc k.placed }

/-- The entries of an accepted frame are decoded in frame order, from INDEX `index` on (R49). -/
def decodeEntriesFrom (mark : Time) (number period : Half) : Nat → List Entry → State → State
  | _, [], s => s
  | index, e :: rest, s =>
    decodeEntriesFrom mark number period (index + 1) rest (decodeEntry mark number period index e s)

/-! ## Taking entries (R60, R62) -/

/-- A strobe entry is taken (R62). -/
def takeStrobe (x : StrobeId) (s : State) : State :=
  let pulseEnd := s.now + (s.activeBank.strobes.get x).pulseWidth.setWidth 32
  let counted := match s.esu.pulses.get x with
    | none => s.countEntries fun k => { k with strobePulses := satInc k.strobePulses }
    | some _ => s.countEntries fun k => { k with strobeRetrigs := satInc k.strobeRetrigs }
  counted.setEsu { counted.esu with pulses := counted.esu.pulses.set x (some pulseEnd) }

/-- A taken schedule entry acts on its destination (R60). -/
def takeWork (w : Work) (s : State) : State :=
  match w with
  | .leg l t => requestLeg l t s
  | .strobe x => takeStrobe x s

/-- Split a schedule at its head: the entries that have the head's DUE, and the rest (R60). -/
def splitDue : List SchedEntry → List SchedEntry × List SchedEntry
  | [] => ([], [])
  | e :: rest => (e :: rest.takeWhile fun x => decide (x.due = e.due), rest.dropWhile fun x => decide (x.due = e.due))

/-- Entries are taken in schedule order (R60). -/
def takeEntries (es : List SchedEntry) (s : State) : State := es.foldl (fun t e => takeWork e.work t) s

/-- The entries of the frame just decoded that are due at the decode instant are taken (R59, log 25). -/
def takeDecoded (number : Half) (s : State) : State :=
  let due (e : SchedEntry) : Bool := decide (e.due = s.now) && decide (e.source = number)
  takeEntries (s.esu.schedule.filter due) (s.setSchedule (s.esu.schedule.filter fun e => !due e))

/-! ## Marks (R5 to R16) -/

/-- The centre of the awaited window (R5). -/
def windowCentre (x : Ctu) : Time := x.nominal + x.period.setWidth 32

/-- The instant the awaited window closes (R5). -/
def windowClose (x : Ctu) : Time := windowCentre x + x.tolerance.setWidth 32

/-- Where a candidate mark lies against the awaited window (R5). -/
inductive WindowPlace
  | before | inside | after
  deriving DecidableEq, Repr

/-- The offset of a candidate mark from the window's centre, -2^31..2^31-1, judged against the tolerance (R5). -/
def windowPlace (x : Ctu) (candidate : Time) : WindowPlace :=
  let offset := (candidate - windowCentre x).toInt
  if offset < -(x.tolerance.toNat : Int) then .before
  else if (x.tolerance.toNat : Int) < offset then .after
  else .inside

/-- The tolerance and MISS-LIMIT in force are loaded from the active bank (R6, R11, R13, R16). -/
def loadInForce (s : State) : State :=
  s.setCtu { s.ctu with tolerance := s.nodeParams.syncTolerance, missLimit := s.nodeParams.missLimit }

/-- A frame mark is declared at a candidate mark (R7, R11). -/
def declareMark (candidate : Time) (number period : Half) (s : State) : State :=
  s.setCtu { s.ctu with nominal := candidate, cycle := number, period := period }

/-- A coasted mark is declared (R9, R13 step 1). -/
def declareCoast (s : State) : State :=
  (s.setCtu { s.ctu with cycle := s.ctu.cycle + 1, nominal := windowCentre s.ctu, misses := s.ctu.misses + 1 }).countTiming
    fun k => { k with coastedMarks := satInc k.coastedMarks }

/-- A LINK-LOSS halt is ordered (R14). -/
def linkLoss (s : State) : State :=
  (s.countTiming fun k => { k with linkLossHalts := satInc k.linkLossHalts }) |> haltOrder .linkLoss

/-- The first-frame treatment (R7). -/
def firstFrame (candidate : Time) (f : CycleFrame) (s : State) : State :=
  let marked := declareMark candidate f.number f.period s
  ((marked.setCtu { marked.ctu with lock := .firstSeen }).countEntries fun k =>
      { k with droppedUnlocked := satAdd k.droppedUnlocked f.entries.length }).countTiming fun k =>
    { k with lockStarts := satInc k.lockStarts }

/-- The SYNC record of kind RESUMED, where misses are above 0, which are then set to 0 (R11 step 2, R17). -/
def resumeSync (number : Half) (s : State) : State :=
  if s.ctu.misses = 0 then s
  else
    let recorded := report (.sync .resumed number (BitVec.ofNat 8 s.ctu.misses)) s
    recorded.setCtu { recorded.ctu with misses := 0 }

/-- Steps 4 and 5 of an accepted frame (R11): parameter load, decode, and the taking of what is due at once (R59). -/
def decodeFrame (candidate : Time) (f : CycleFrame) (s : State) : State :=
  takeDecoded f.number (decodeEntriesFrom candidate f.number f.period 0 f.entries (loadInForce s))

/-- An accepted frame: the frame mark's steps in order (R11). -/
def acceptMark (candidate : Time) (f : CycleFrame) (s : State) : State :=
  let checked := commitCheck
    (resumeSync f.number
      ((declareMark candidate f.number f.period s).countTiming fun k =>
        { k with framesAccepted := satInc k.framesAccepted }))
  if checked.ncu.state = .halted then checked else decodeFrame candidate f checked

/-- The lock (R8): misses 0, stage LOCKED, and the node moves to RUNNING (R116). -/
def lockNode (s : State) : State :=
  (s.setCtu { s.ctu with misses := 0, lock := .locked }).setNcu { s.ncu with state := .running }

/-- A frame in SYNCING that has passed the period check (R7, R8). -/
def syncingFrame (candidate : Time) (f : CycleFrame) (s : State) : State :=
  match s.ctu.lock with
  | .none => firstFrame candidate f s
  | .firstSeen =>
    if windowPlace s.ctu candidate = .inside ∧ f.number = s.ctu.cycle + 1 then
      acceptMark candidate f (lockNode s)
    else firstFrame candidate f s
  | .locked => firstFrame candidate f s

/-- A late frame is dropped (R12). -/
def dropLate (s : State) : State := s.countTiming fun k => { k with lateFrames := satInc k.lateFrames }

/-- A frame in RUNNING that has passed the period check (R10, R12). -/
def runningFrame (candidate : Time) (f : CycleFrame) (s : State) : State :=
  match windowPlace s.ctu candidate with
  | .inside =>
    if cycleBehind f.number (s.ctu.cycle + 1) then
      s.countTiming fun k => { k with staleFrames := satInc k.staleFrames }
    else
      acceptMark candidate f
        (s.countTiming fun k =>
          { k with cyclesSkipped := satAdd k.cyclesSkipped (cycleDiff f.number (s.ctu.cycle + 1)) })
  | .after => dropLate s
  | .before =>
    if cycleAhead f.number s.ctu.cycle then
      s.countTiming fun k => { k with earlyFrames := satInc k.earlyFrames }
    else dropLate s

/-- Whether a PERIOD is in range (R4). -/
def periodOk (p : Half) : Bool := decide (2000 ≤ p.toNat)

/-- A frame taken in SYNCING or RUNNING: the period check, then `judge` with the candidate mark (R4). -/
def periodChecked (judge : Time → CycleFrame → State → State) (f : CycleFrame) (s : State) : State :=
  if periodOk f.period then judge (s.now + s.nodeParams.delayComp.setWidth 32) f s
  else s.countTiming fun k => { k with periodErrors := satInc k.periodErrors }

/-- A frame the CTU ignores (R3). -/
def ignoreFrame (s : State) : State := s.countTiming fun k => { k with framesIgnored := satInc k.framesIgnored }

/-- The CTU takes a CYCLE frame by the node state (R3). -/
def takeCycle (f : CycleFrame) (s : State) : State :=
  match s.ncu.state with
  | .unaddressed => ignoreFrame s
  | .standby => ignoreFrame s
  | .syncing => periodChecked syncingFrame f s
  | .running => periodChecked runningFrame f s
  | .halted => ignoreFrame s

/-- The coast order of a coasted mark: the schedule entries of COAST=OFF legs are discarded and those legs turn off
(R39, R67). -/
def coastOrder (s : State) : State :=
  let b := s.activeBank
  (discardEntries (fun e =>
      match e.work with
      | .leg l _ => decide ((b.legs.get l).coast ≠ .off)
      | .strobe _ => true) .coast s) |> coastLegs

/-- The window closes in SYNCING (R9). -/
def coastSyncing (s : State) : State :=
  let marked := declareCoast s
  if marked.ctu.missLimit.toNat ≤ marked.ctu.misses then linkLoss marked else marked

/-- Steps 4 and 5 of a coasted mark in RUNNING (R13). -/
def coastContinue (s : State) : State :=
  let loaded := loadInForce s
  coastOrder (if loaded.ctu.misses = 1 then report (.sync .coast loaded.ctu.cycle 0) loaded else loaded)

/-- The window closes in RUNNING (R13). -/
def coastRunning (s : State) : State :=
  let checked := commitCheck (declareCoast s)
  if checked.ncu.state = .halted then checked
  else if checked.ctu.missLimit.toNat ≤ checked.ctu.misses then linkLoss checked
  else coastContinue checked

end Sys2Proof.Machine
end

