-- ==== Sys2Proof/Machine/Chain.lean ====
section
/-! DEFINITION. The return path and the chain ports (chapters 8 and 9): merging into RETURN frames, the two forward
buffers, tail duty, and the acceptance of a downstream frame. -/

namespace Sys2Proof.Machine

/-! ## Merging (R155 to R157) -/

/-- The most payload units of a RETURN frame (0.7.3). -/
def payloadLimit : Nat := 64

/-- A record moves from the queue into a RETURN frame (R157 step 2). -/
def sendRecord (r : Record) (rest : List Record) (s : State) : State :=
  (s.setRpu { s.rpu.account r.cls Accounting.moved with queue := rest }).setFbm (s.fbm.countEdge r.body (· - 1))

/-- The units of the head records that fit while the payload stays within `limit`, and the state they leave behind
(R157 steps 2 and 3). `used` is the payload filled so far; `fuel` bounds the records looked at. -/
def collect (limit : Nat) : Nat → Nat → State → List Quad × State
  | 0, _, s => ([], s)
  | fuel + 1, used, s =>
    match removalHead s.rpu.queue with
    | none => ([], s)
    | some (r, rest) =>
      if used + r.body.length ≤ limit then
        let more := collect limit fuel (used + r.body.length) (sendRecord r rest s)
        (encodeRecord r ++ more.1, more.2)
      else ([], s)

/-- The stub of the node at address `a` (R155). -/
def stubOf (a : Byte) (s : State) : Quad :=
  encodeStub a s.ncu.state s.safeLegs s.rpu.queue.length s.rpu.faultOverflow s.bks.pending.isSome

/-- The node at address `a` merges into a RETURN frame: its stub, then its records in removal order (R157). -/
def mergeFrame (a : Byte) (f : ReturnFrame) (s : State) : ReturnFrame × State :=
  let moved := collect (payloadLimit - (a.toNat - 1)) s.rpu.queue.length (f.payload.length + 1) s
  ({ f with payload := f.payload ++ stubOf a moved.2 :: moved.1 }, moved.2)

/-- A frame enters the upstream buffer and its transmission begins if the transmitter is idle (R173). -/
def pushUp (f : ReturnFrame) (s : State) : State := s.setCiu { s.ciu with up := s.ciu.up ++ [f], uTx := true }

/-- A RETURN frame is to be moved into the upstream buffer: dropped without a merge where U PARTNER is absent (R165) or
the buffer holds 2 frames (R156, R173); merged into by an addressed node; moved unchanged by an unaddressed one. -/
def moveUp (f : ReturnFrame) (s : State) : State :=
  if s.ciu.uPartner = false then s.countLink fun k => { k with upstreamDiscards := satInc k.upstreamDiscards }
  else if 2 ≤ s.ciu.up.length then s.countLink fun k => { k with upstreamOverflow := satInc k.upstreamOverflow }
  else
    match s.ciu.address with
    | none => pushUp f s
    | some a => pushUp (mergeFrame a f s).1 (mergeFrame a f s).2

/-- The address a fresh RETURN frame carries: the node's, or 0 (R159, R160). -/
def ownOrigin (s : State) : Byte := s.ciu.address.getD 0

/-- A fresh RETURN frame in place of one from below: ORIGIN and BREAK are the node's address, or 0 (R158, R159). -/
def replaceReturn (s : State) : State := moveUp { origin := ownOrigin s, brk := ownOrigin s, payload := [] } s

/-- A RETURN frame arrives on D, well formed (R157, R158, R172) (log 13). -/
def arriveReturn (f : ReturnFrame) (s : State) : State :=
  match s.ciu.address with
  | none => moveUp f s
  | some a =>
    if payloadLimit - a.toNat < f.payload.length then
      replaceReturn (s.setRpu { s.rpu with overFull := satInc s.rpu.overFull })
    else moveUp f s

/-- The tail originates one RETURN frame (R160, R169). -/
def originate (s : State) : State :=
  (s.countLink fun k => { k with returnsOriginated := satInc k.returnsOriginated }) |>
    moveUp { origin := ownOrigin s, brk := 0, payload := [] }

/-! ## Passing a downstream frame on (R167, R168) -/

/-- HOP of the ENUM passed on (R171). -/
def nextHop (h : Byte) : Byte := if h = 255 then 255 else h + 1

/-- The frame as it is passed on: an ENUM with its HOP increased, any other unchanged (R167, R171). -/
def DownFrame.forwarded : DownFrame → DownFrame
  | .enum hop => .enum (nextHop hop)
  | .cycle f => .cycle f
  | .manage h r => .manage h r

/-- An accepted frame is offered to the downstream buffer (R168). -/
def offerDown (f : DownFrame) (s : State) : State :=
  if s.ciu.down.length < 2 then s.setCiu { s.ciu with down := s.ciu.down ++ [f], dTx := true }
  else s.countLink fun k => { k with downstreamOverflow := satInc k.downstreamOverflow }

/-- An accepted frame is passed on, or answered as tail (R167 step 2, R169). -/
def passOn (f : DownFrame) (s : State) : State :=
  if s.ciu.dPartner then offerDown f.forwarded s else originate s

/-! ## Receptions (R163, R166) -/

/-- Whether a reception can end at U: a partner is there and a frame is being received (R163, log 16). -/
def receivingU (s : State) : Bool := s.ciu.uPartner && s.ciu.uRx

/-- Whether a reception can end at D (R163, log 16). -/
def receivingD (s : State) : Bool := s.ciu.dPartner && s.ciu.dRx

/-- "U check errors" increases by 1 (R166). -/
def countUCheck (s : State) : State := s.countLink fun k => { k with uCheckErrors := satInc k.uCheckErrors }

/-- "Wrong-port frames" increases by 1 (R166, R172). -/
def countWrongPort (s : State) : State := s.countLink fun k => { k with wrongPort := satInc k.wrongPort }

/-- The U receiver is idle again. -/
def endReceptionU (s : State) : State := s.setCiu { s.ciu with uRx := false }

/-- The D receiver is idle again. -/
def endReceptionD (s : State) : State := s.setCiu { s.ciu with dRx := false }

/-- The reception of a downstream frame with a good check ends at U (R166, R167): a frame whose fields no well-formed
frame can carry is malformed (log 15); any other is acted on by `act` and then passed on. Nothing is taken when no
reception is in progress (log 3). -/
def acceptFrame (f : DownFrame) (act : State → State) (s : State) : State :=
  if receivingU s then
    if f.formOk then passOn f (act (endReceptionU s)) else countUCheck (endReceptionU s)
  else s

/-! ## ENUM (R113, R171) -/

/-- Replace the node address. -/
def State.setAddress (a : Option Byte) (s : State) : State := s.setCiu { s.ciu with address := a }

/-- The address a HOP gives: HOP + 1 for 0..15, none above (R171). -/
def hopAddress (h : Byte) : Option Byte := if h.toNat < 16 then some (h + 1) else none

/-- An ENUM taken in SYNCING, RUNNING or HALTED: the topology check (R171). -/
def checkTopology (h : Byte) (s : State) : State :=
  if s.ciu.address.map BitVec.toNat = some (h.toNat + 1) then s
  else (s.countLink fun k => { k with enumMismatches := satInc k.enumMismatches }) |> haltOrder .topology

/-- An ENUM acts on the address and the node state (R113, R171). Entry into STANDBY from UNADDRESSED opens every SAFE
leg (R47). -/
def actEnum (h : Byte) (s : State) : State :=
  match s.ncu.state with
  | .unaddressed =>
    match hopAddress h with
    | some a => openSafeLegs ((s.setAddress (some a)).setNcu { s.ncu with state := .standby })
    | none => s.setAddress none
  | .standby =>
    match hopAddress h with
    | some a => s.setAddress (some a)
    | none => (s.setAddress none).setNcu { s.ncu with state := .unaddressed }
  | .syncing => checkTopology h s
  | .running => checkTopology h s
  | .halted => checkTopology h s

end Sys2Proof.Machine
end

