-- ==== Sys2Proof/Machine/Manage.lean ====
section
/-! DEFINITION. The Management Unit (chapter 10) and the NCU's requests (chapter 6): taking a request, the response
store, and the meaning of each of the sixteen MANAGE commands. -/

namespace Sys2Proof.Machine

/-! ## Taking a request (R170, R177 to R179) -/

/-- Whether a MANAGE frame is this node's request (R170). -/
def forThisNode (h : ManageHead) (s : State) : Bool :=
  match s.ciu.address with
  | none => false
  | some a => decide (h.dest = 0 ∨ h.dest = a)

/-- A request ends in its response: a RESPONSE record, and the response store's new content (R179). -/
def respond (h : ManageHead) (code : BitVec 4) (status : Status) (data : List Quad) (s : State) : State :=
  (report (.response h.seq code status data) s) |> fun t =>
    t.setMgu { t.mgu with store := some { seq := h.seq, code := code, status := status, data := data } }

/-- A retransmission is answered from the response store (R178). -/
def respondStored (x : Stored) (s : State) : State := report (.response x.seq x.code x.status x.data) s

/-- Whether the node state admits a request (R125). A request of unknown kind is not judged by it. -/
def admitted (r : Request) (n : NodeState) : Bool :=
  match r with
  | .commitImmediate _ => decide (n = .standby ∨ n = .halted)
  | .commitTargeted _ => decide (n = .syncing ∨ n = .running)
  | .arm => decide (n = .standby)
  | .disarm => decide (n = .syncing ∨ n = .running)
  | .resume => decide (n = .halted)
  | .unknown _ _ => true
  | .echo _ => decide (n ≠ .unaddressed)
  | .status => decide (n ≠ .unaddressed)
  | .counters _ _ _ => decide (n ≠ .unaddressed)
  | .read _ _ _ => decide (n ≠ .unaddressed)
  | .write _ _ _ => decide (n ≠ .unaddressed)
  | .copy => decide (n ≠ .unaddressed)
  | .cancel => decide (n ≠ .unaddressed)
  | .clear _ => decide (n ≠ .unaddressed)
  | .flush => decide (n ≠ .unaddressed)
  | .restart => decide (n ≠ .unaddressed)

/-- The stored response, where the frame is a retransmission of it (R177 step 1). -/
def storedFor (h : ManageHead) (r : Request) (s : State) : Option Stored :=
  match s.mgu.store with
  | none => none
  | some x => if x.seq = h.seq ∧ x.code = r.code then some x else none

/-- The MGU takes a MANAGE frame: only this node's request, a retransmission from the store, a refusal by the node
state, or the request's own rule `own` (R170, R177). -/
def takeRequest (h : ManageHead) (r : Request) (own : State → State) (s : State) : State :=
  if forThisNode h s then
    match storedFor h r s with
    | some x => respondStored x s
    | none => if admitted r s.ncu.state then own s else respond h r.code .wrongState [] s
  else s

/-- Reception of a MANAGE frame ends at U (R167). -/
def manageFrame (h : ManageHead) (r : Request) (own : State → State) (s : State) : State :=
  acceptFrame (.manage h r) (takeRequest h r own) s

/-! ## ECHO, STATUS, UNKNOWN (R182, R183) -/

/-- ECHO's own rule (R182). -/
def doEcho (h : ManageHead) (data : List Quad) (s : State) : State := respond h 1 .done data s

/-- An unknown request's own rule (R177 step 2). -/
def doUnknown (h : ManageHead) (code : UnknownCode) (params : List Byte) (s : State) : State :=
  respond h (Request.unknown code params).code .unknown [] s

/-- Code of a leg STATE (Table 52). -/
def LegCond.stateCode : LegCond → BitVec 3
  | .off => 0
  | .on .upper _ _ _ _ => 1
  | .on .lower _ _ _ _ => 2
  | .gap _ _ _ => 3
  | .heldOff _ => 4
  | .safe _ _ _ => 5

/-- Code of a SAFE-PHASE; 0 where it is absent (Table 52). -/
def LegCond.phaseCode : LegCond → BitVec 2
  | .off => 0
  | .on _ _ _ _ _ => 0
  | .gap _ _ _ => 0
  | .heldOff _ => 0
  | .safe _ .opened _ => 1
  | .safe _ (.settling _ _) _ => 2
  | .safe _ .clamped _ => 3

/-- The 12 bits STATUS carries of one leg (Table 54). -/
def legStatus (c : LegCond) : BitVec 12 := c.stateCode ++ c.phaseCode ++ c.causes.bits

/-- The four units of a 128-bit value, most significant first. -/
def quadsOf128 (x : BitVec 128) : List Quad :=
  [x.extractLsb' 96 32, x.extractLsb' 64 32, x.extractLsb' 32 32, x.extractLsb' 0 32]

/-- Byte 0 of the STATUS data (Table 54). -/
def statusFlags (s : State) : Byte :=
  0#3 ++ BitVec.ofBool s.bks.pending.isSome ++ BitVec.ofBool s.rpu.faultOverflow ++ s.bks.active.bit ++ s.ncu.state.code

/-- The STATUS data (R183, Table 54). With no commit pending the PENDING bytes are 0 (log 12). -/
def statusData (s : State) : List Quad :=
  quadsOf128
    (statusFlags s ++ s.ciu.address.getD 0 ++ s.bks.pending.getD 0 ++ (0#1 ++ s.ncu.causes.bits) ++
      BitVec.ofNat 8 s.rpu.queue.length ++ BitVec.ofNat 8 s.esu.schedule.length ++
      (legStatus (s.leg .l0).cond ++ legStatus (s.leg .l1).cond ++ legStatus (s.leg .l2).cond ++
        legStatus (s.leg .l3).cond ++ legStatus (s.leg .l4).cond ++ legStatus (s.leg .l5).cond))

/-- STATUS's own rule: FAULT-OVERFLOW is cleared as its response is created (R152, R183). -/
def doStatus (h : ManageHead) (s : State) : State :=
  (s.setRpu { s.rpu with faultOverflow := false }) |> respond h 2 .done (statusData s)

/-! ## COUNTERS (R184, R185) -/

/-- The page of a counter snapshot; none beyond the group's last page (Table 46). -/
def Snapshot.page (x : Snapshot) (page : Byte) : Option (List Quad) :=
  match x with
  | .link c o =>
    if page = 0 then
      some [quadOfHalves c.uCheckErrors c.dCheckErrors, quadOfHalves c.wrongPort c.downstreamOverflow,
        quadOfHalves c.upstreamOverflow c.downstreamDiscards, quadOfHalves c.upstreamDiscards c.uPartnerLosses]
    else if page = 1 then
      some [quadOfHalves c.dPartnerLosses c.returnsOriginated, quadOfHalves c.enumMismatches o]
    else none
  | .timing c =>
    if page = 0 then
      some [quadOfHalves c.framesAccepted c.lockStarts, quadOfHalves c.earlyFrames c.lateFrames,
        quadOfHalves c.staleFrames c.cyclesSkipped, quadOfHalves c.coastedMarks c.periodErrors]
    else if page = 1 then some [quadOfHalves c.framesIgnored c.linkLossHalts]
    else none
  | .entries e l f p =>
    if page = 0 then
      some [quadOfHalves e.placed e.unclaimed, quadOfHalves e.rejected e.droppedUnlocked,
        quadOfHalves e.superseded e.discarded, quadOfHalves e.strobePulses e.strobeRetrigs]
    else if page = 1 then
      some [quadOfHalves l.refused l.deferredReplaced, quadOfHalves f.confirmFailures f.disagreements,
        quadOfHalves f.watchesReplaced f.edgeOverruns, quadOfHalves p.assertions p.glitches]
    else if page = 2 then some [quadOfHalves p.trips p.releases]
    else none
  | .accounting a =>
    if page = 0 then some [a.f.placed, a.f.sent, a.f.dropped, a.f.held]
    else if page = 1 then some [a.m.placed, a.m.sent, a.m.dropped, a.m.held]
    else if page = 2 then some [a.e.placed, a.e.sent, a.e.dropped, a.e.held]
    else if page = 3 then some [a.c.placed, a.c.sent, a.c.dropped, a.c.held]
    else none

/-- The group of a snapshot. -/
def Snapshot.group : Snapshot → Byte
  | .link _ _ => 0
  | .timing _ => 1
  | .entries _ _ _ _ => 2
  | .accounting _ => 3

/-- Every counter of a group at this instant; none above group 3 (R185). -/
def snapshotOf (group : Byte) (s : State) : Option Snapshot :=
  if group = 0 then some (.link s.ciu.counters s.rpu.overFull)
  else if group = 1 then some (.timing s.ctu.counters)
  else if group = 2 then some (.entries s.esu.counters s.lge.counters s.fbm.counters s.pru.counters)
  else if group = 3 then some (.accounting s.rpu.accounting)
  else none

/-- Every counter of a group is set to 0; group 3 is not cleared (R185 step 2). -/
def clearGroup (group : Byte) (s : State) : State :=
  if group = 0 then (s.countLink fun _ => LinkCounters.zero).setRpu { s.rpu with overFull := 0 }
  else if group = 1 then s.countTiming fun _ => TimingCounters.zero
  else if group = 2 then
    (((s.countEntries fun _ => EntryCounters.zero).countLegs fun _ => LegCounters.zero).countFeedback fun _ =>
      FeedbackCounters.zero).countProt fun _ => ProtCounters.zero
  else s

/-- Whether a COUNTERS request takes a snapshot (R185 step 1). -/
def takesSnapshot (group page : Byte) (s : State) : Bool :=
  decide (page = 0) || decide (s.mgu.snapshot.map Snapshot.group ≠ some group)

/-- The response of a COUNTERS request: the requested page of the snapshot `x` (R185 step 3). -/
def respondPage (h : ManageHead) (page : Byte) (x : Snapshot) (s : State) : State :=
  match x.page page with
  | some data => respond h 3 .done data s
  | none => respond h 3 .badValue [] s

/-- COUNTERS' own rule (R185, R191). -/
def doCounters (h : ManageHead) (group page : Byte) (clearFlag : Bool) (s : State) : State :=
  match snapshotOf group s with
  | none => respond h 3 .badValue [] s
  | some fresh =>
    if (fresh.page page).isNone then respond h 3 .badValue [] s
    else if takesSnapshot group page s then
      let snapped := s.setMgu { s.mgu with snapshot := some fresh }
      respondPage h page fresh (if clearFlag then clearGroup group snapped else snapped)
    else respondPage h page (s.mgu.snapshot.getD fresh) s

/-! ## Requests on the banks (R129 to R137, R186) -/

/-- READ's own rule (R129). -/
def doRead (h : ManageHead) (bank table index : Byte) (s : State) : State :=
  match recordOf table index with
  | none => respond h 4 .badTarget [] s
  | some name =>
    if bank = 0 then respond h 4 .done ((quadsOfBytes (readRecord s.activeBank name)).getD []) s
    else if bank = 1 then respond h 4 .done ((quadsOfBytes (readRecord s.shadowBank name)).getD []) s
    else respond h 4 .badValue [] s

/-- WRITE's own rule (R130). -/
def doWrite (h : ManageHead) (table index : Byte) (record : List Byte) (s : State) : State :=
  match recordOf table index with
  | none => respond h 5 .badTarget [] s
  | some name =>
    if s.bks.pending.isSome then respond h 5 .locked [] s
    else
      match writeRecord s.shadowBank name record with
      | none => respond h 5 .badValue [] s
      | some b => respond h 5 .done [] (s.setBks (s.bks.withShadow b))

/-- COPY's own rule (R131). -/
def doCopy (h : ManageHead) (s : State) : State :=
  if s.bks.pending.isSome then respond h 6 .locked [] s
  else respond h 6 .done [] (s.setBks (s.bks.withShadow s.activeBank))

/-- The response of a COMMIT whose shadow fails a check (R132, R186). -/
def respondInvalid (h : ManageHead) (reason : Byte) (name : RecordName) (s : State) : State :=
  respond h 7 .invalid [datum reason name.codes.1 name.codes.2] s

/-- COMMIT IMMEDIATE's own rule after its form check (R133, R134). -/
def doCommitImmediate (h : ManageHead) (s : State) : State :=
  if s.bks.pending.isSome then respond h 7 .locked [] s
  else
    match validate s.shadowBank with
    | some (reason, name) => respondInvalid h reason name s
    | none =>
      (swapBanks .immediate s) |> respond h 7 .done [datum ((otherBank s.bks.active).bit.setWidth 8) 0 0]

/-- The horizon of a targeted COMMIT (R133 step 3). -/
def horizonOk (target cycle : Half) : Bool :=
  decide (1 ≤ cycleDiff target cycle) && decide (cycleDiff target cycle ≤ 1024)

/-- COMMIT TARGETED's own rule after its form check (R133, R135). -/
def doCommitTargeted (h : ManageHead) (target : Half) (s : State) : State :=
  if s.bks.pending.isSome then respond h 7 .locked [] s
  else if horizonOk target s.ctu.cycle then
    match validate s.shadowBank with
    | some (reason, name) => respondInvalid h reason name s
    | none => respond h 7 .accepted [quadOfHalves target 0] (s.setBks { s.bks with pending := some target })
  else respond h 7 .badValue [] s

/-- CANCEL's own rule (R137). -/
def doCancel (h : ManageHead) (s : State) : State :=
  match s.bks.pending with
  | none => respond h 8 .wrongState [] s
  | some target => respond h 8 .done [quadOfHalves target 0] (s.setBks { s.bks with pending := none })

/-! ## Requests on the node and the legs (chapter 6, R105 to R107, R187 to R190) -/

/-- A set of legs as a byte (R193). -/
def legSetByte (v : LegSet) : Byte := 0#2 ++ v.bits

/-- An accepted ARM moves the node to SYNCING (R115, R6, R85). -/
def armNode (s : State) : State :=
  (loadInForce (s.setCtu { s.ctu with lock := .none, misses := 0 })) |>
    State.setNode .syncing HaltSet.empty |> startMonitors

/-- ARM's own rule (R115, R187). -/
def doArm (h : ManageHead) (s : State) : State :=
  if s.safeLegs.isEmpty then respond h 9 .done [] (armNode s)
  else respond h 9 .causePresent [datum (legSetByte s.safeLegs) 0 0] s

/-- DISARM moves the node to STANDBY (R117). The monitors enter IDLE first, so the turn-offs open no watch (log 19). -/
def disarmNode (s : State) : State :=
  (s.idleMonitors.setNode .standby HaltSet.empty) |> leaveOperation |> disarmLegs |>
    discardEntries (fun _ => false) .disarm |> strobesLow |> cancelCommit .disarm

/-- DISARM's own rule (R117, R187). -/
def doDisarm (h : ManageHead) (s : State) : State := respond h 10 .done [] (disarmNode s)

/-- The causes CLEAR leaves on a leg: NODE-HALT, and each FIn whose channel is not quiet (R106). -/
def clearedCauses (cs : Causes) (s : State) : Causes :=
  { cs with
    fi := PerChan.tabulate fun n => cs.fi.get n && !channelQuiet n s
    confirm := false
    overlong := false }

/-- The removals of CLEAR on one leg (R106). -/
def clearLeg (l : LegId) (s : State) : State := setCauses l (clearedCauses (s.leg l).cond.causes s) s

/-- CLEAR's removals on the named legs (R106). -/
def clearLegs (v : LegSet) (s : State) : State := forLegsIn v clearLeg s

/-- The legs of a set that are in SAFE. -/
def safeAmong (v : LegSet) (s : State) : LegSet := legSetWhere fun l => v.get l && (s.leg l).cond.isSafe

/-- The legs of a set that were in SAFE in `s` and are not in `t` (R107). -/
def leftSafe (v : LegSet) (s t : State) : LegSet :=
  legSetWhere fun l => v.get l && (s.leg l).cond.isSafe && !(t.leg l).cond.isSafe

/-- CLEAR's own rule (R106, R107, R188). -/
def doClear (h : ManageHead) (legs : Byte) (s : State) : State :=
  if legs.extractLsb' 6 2 = 0 then
    let v := LegSet.ofByte legs
    let t := clearLegs v s
    respond h 11 (if (safeAmong v t).isEmpty then .done else .causePresent)
      [datum (legSetByte (leftSafe v s t)) (legSetByte (safeAmong v t)) 0] t
  else respond h 11 .badValue [] s

/-- The halt causes that are not removable: FAULT-n of a channel that is not quiet (R122). -/
def keptCauses (s : State) : HaltSet :=
  { HaltSet.empty with fault := PerChan.tabulate fun n => s.ncu.causes.fault.get n && !channelQuiet n s }

/-- A successful RESUME moves the node to STANDBY (R122). The monitors enter IDLE first, so the turn-offs open no
watch (log 19). -/
def resumeNode (s : State) : State :=
  (s.idleMonitors.setNode .standby HaltSet.empty) |> openSafeLegs |> forLegs fun l t => removeCause l .nodeHalt t

/-- RESUME's own rule (R122, R187). -/
def doResume (h : ManageHead) (s : State) : State :=
  if (keptCauses s).isEmpty then
    let t := resumeNode s
    respond h 12 .done [datum (legSetByte t.safeLegs) 0 0] t
  else respond h 12 .causePresent [datum (legSetByte s.safeLegs) (0#1 ++ (keptCauses s).bits) 0] s

/-- FLUSH's own rule (R66, R189). -/
def doFlush (h : ManageHead) (s : State) : State :=
  (discardEntries (fun _ => false) .flush s) |>
    respond h 13 .done [datum (BitVec.ofNat 8 s.esu.schedule.length) 0 0]

/-- The CTU at RESTART (R20, R124). -/
def restartCtu (s : State) : State :=
  loadInForce (s.setCtu { s.ctu with misses := 0, lock := .none, counters := TimingCounters.zero })

/-- Every block's own part of RESTART, the pending commit apart (R124 and the reset rules of the chapters). The monitors
enter IDLE first, so the turn-offs open no watch (log 19). -/
def restartBlocks (s : State) : State :=
  let legs := restartLegs (restartCtu (s.idleMonitors.setNode .standby HaltSet.empty))
  ((((legs.setEsu Esu.initial).setFbm Fbm.initial).setPru Pru.initial).setRpu Rpu.initial).setMgu
      { legs.mgu with snapshot := none } |>.countLink fun _ => LinkCounters.zero

/-- RESTART's own rule: the blocks, the response first, then CANCELLED, then the fault inputs read afresh (R109, R124,
R190). -/
def doRestart (h : ManageHead) (s : State) : State :=
  (respond h 14 .done [] (restartBlocks s)) |> cancelCommit .restart |> forChans readInput

/-! ## The commands -/

/-- ECHO (R182). -/
def execEcho (h : ManageHead) (data : List Quad) (s : State) : Host.Outcome State Fault Refusal :=
  .next (manageFrame h (.echo data) (doEcho h data) s)

/-- STATUS (R183). -/
def execStatus (h : ManageHead) (s : State) : Host.Outcome State Fault Refusal :=
  .next (manageFrame h .status (doStatus h) s)

/-- COUNTERS (R185). -/
def execCounters (h : ManageHead) (group page : Byte) (clearFlag : Bool) (s : State) :
    Host.Outcome State Fault Refusal :=
  .next (manageFrame h (.counters group page clearFlag) (doCounters h group page clearFlag) s)

/-- READ (R129). -/
def execRead (h : ManageHead) (bank table index : Byte) (s : State) : Host.Outcome State Fault Refusal :=
  .next (manageFrame h (.read bank table index) (doRead h bank table index) s)

/-- WRITE (R130). -/
def execWrite (h : ManageHead) (table index : Byte) (record : List Byte) (s : State) :
    Host.Outcome State Fault Refusal :=
  .next (manageFrame h (.write table index record) (doWrite h table index record) s)

/-- COPY (R131). -/
def execCopy (h : ManageHead) (s : State) : Host.Outcome State Fault Refusal :=
  .next (manageFrame h .copy (doCopy h) s)

/-- COMMIT with IMMEDIATE (R134). -/
def execCommitImmediate (h : ManageHead) (disregarded : Half) (s : State) : Host.Outcome State Fault Refusal :=
  .next (manageFrame h (.commitImmediate disregarded) (doCommitImmediate h) s)

/-- COMMIT with a target cycle (R135). -/
def execCommitTargeted (h : ManageHead) (target : Half) (s : State) : Host.Outcome State Fault Refusal :=
  .next (manageFrame h (.commitTargeted target) (doCommitTargeted h target) s)

/-- CANCEL (R137). -/
def execCancel (h : ManageHead) (s : State) : Host.Outcome State Fault Refusal :=
  .next (manageFrame h .cancel (doCancel h) s)

/-- ARM (R115). -/
def execArm (h : ManageHead) (s : State) : Host.Outcome State Fault Refusal :=
  .next (manageFrame h .arm (doArm h) s)

/-- DISARM (R117). -/
def execDisarm (h : ManageHead) (s : State) : Host.Outcome State Fault Refusal :=
  .next (manageFrame h .disarm (doDisarm h) s)

/-- CLEAR (R106, R188). -/
def execClear (h : ManageHead) (legs : Byte) (s : State) : Host.Outcome State Fault Refusal :=
  .next (manageFrame h (.clear legs) (doClear h legs) s)

/-- RESUME (R122). -/
def execResume (h : ManageHead) (s : State) : Host.Outcome State Fault Refusal :=
  .next (manageFrame h .resume (doResume h) s)

/-- FLUSH (R189). -/
def execFlush (h : ManageHead) (s : State) : Host.Outcome State Fault Refusal :=
  .next (manageFrame h .flush (doFlush h) s)

/-- RESTART (R124, R190). -/
def execRestart (h : ManageHead) (s : State) : Host.Outcome State Fault Refusal :=
  .next (manageFrame h .restart (doRestart h) s)

/-- UNKNOWN (R177). -/
def execUnknown (h : ManageHead) (code : UnknownCode) (params : List Byte) (s : State) :
    Host.Outcome State Fault Refusal :=
  .next (manageFrame h (.unknown code params) (doUnknown h code params) s)

end Sys2Proof.Machine
end

