-- ==== Sys2Proof/Machine/Inputs.lean ====
section
/-! DEFINITION. The commands of the input pins: a feedback input or a fault input is observed at a new level. -/

namespace Sys2Proof.Machine

/-- Record the level observed on a feedback input (R73). -/
def State.setFeedbackPin (l : LegId) (sw : Switch) (v : Level) (s : State) : State :=
  s.setPins { s.pins with feedback := s.pins.feedback.set l ((s.pins.feedback.get l).set sw v) }

/-- FEEDBACK_INPUT_CHANGE (R73): the monitor judges the observation as an edge. An input observed at the level it has is
no change. -/
def execFeedbackInputChange (l : LegId) (sw : Switch) (v : Level) (s : State) : Host.Outcome State Fault Refusal :=
  .next (if (s.pins.feedback.get l).get sw = v then s else observe l sw true (s.setFeedbackPin l sw v))

/-- FAULT_ASSERTION (R91, R93, R100): the input takes the level the entry asserts at. On an UNUSED channel the reading
stays deasserted and only the level is recorded (log 6). -/
def execFaultAssertion (n : ChanId) (s : State) : Host.Outcome State Fault Refusal :=
  let t := s.setFaultPin n (s.protParams n).assertLevel
  .next (if s.faultAsserted n then s else if t.faultAsserted n then channelAsserts n t else t)

/-- FAULT_DEASSERTION (R91, R95, R99): the input takes the level the entry does not assert at. On an UNUSED channel only
the level is recorded (log 6). -/
def execFaultDeassertion (n : ChanId) (s : State) : Host.Outcome State Fault Refusal :=
  let t := s.setFaultPin n (otherLevel (s.protParams n).assertLevel)
  .next (if s.faultAsserted n then channelDeasserts n t else t)

end Sys2Proof.Machine
end

