-- ==== Sys2Proof/Machine/Ports.lean ====
section
/-! DEFINITION. The commands of the reset input and the two chain ports: HARD_RESET, ENUM, CYCLE, the receptions, the
ends of transmissions, and the partner events. -/

namespace Sys2Proof.Machine

/-! ## Acting on any downstream frame (R167) -/

/-- The own rule of any request, for a frame that arrives as bytes. -/
def doRequest (h : ManageHead) (r : Request) (s : State) : State :=
  match r with
  | .echo data => doEcho h data s
  | .status => doStatus h s
  | .counters g p f => doCounters h g p f s
  | .read b t i => doRead h b t i s
  | .write t i x => doWrite h t i x s
  | .copy => doCopy h s
  | .commitImmediate _ => doCommitImmediate h s
  | .commitTargeted t => doCommitTargeted h t s
  | .cancel => doCancel h s
  | .arm => doArm h s
  | .disarm => doDisarm h s
  | .clear l => doClear h l s
  | .resume => doResume h s
  | .flush => doFlush h s
  | .restart => doRestart h s
  | .unknown c p => doUnknown h c p s

/-- A downstream frame is acted on by its kind (R167 step 1). -/
def actDown (f : DownFrame) (s : State) : State :=
  match f with
  | .enum hop => actEnum hop s
  | .cycle c => takeCycle c s
  | .manage h r => takeRequest h r (doRequest h r) s

/-! ## Receptions -/

/-- The reception of some bytes ends at U (R166). Bytes that make a good downstream frame are accepted (log 15). -/
def receiveU (bytes : List Byte) (s : State) : State :=
  match hear bytes with
  | .bad => if receivingU s then countUCheck (endReceptionU s) else s
  | .up _ => if receivingU s then countWrongPort (endReceptionU s) else s
  | .down f => acceptFrame f (actDown f) s

/-- The reception of some bytes ends at D (R159, R172). -/
def receiveD (bytes : List Byte) (s : State) : State :=
  if receivingD s then
    match hear bytes with
    | .bad =>
      replaceReturn ((endReceptionD s).countLink fun k => { k with dCheckErrors := satInc k.dCheckErrors })
    | .up f => arriveReturn f (endReceptionD s)
    | .down _ => countWrongPort (endReceptionD s)
  else s

/-- A reception begins at a port whose partner is present (R163). -/
def beginReception (p : Port) (s : State) : State :=
  match p with
  | .u => if s.ciu.uPartner then s.setCiu { s.ciu with uRx := true } else s
  | .d => if s.ciu.dPartner then s.setCiu { s.ciu with dRx := true } else s

/-! ## Transmissions (R168, R173) -/

/-- The head frame's transmission on D ends: it leaves, and the next frame, if any, begins (R168). -/
def endTransmitD (s : State) : State :=
  if s.ciu.dTx then s.setCiu { s.ciu with down := s.ciu.down.tail, dTx := !s.ciu.down.tail.isEmpty } else s

/-- The head frame's transmission on U ends: it leaves, and the next frame, if any, begins (R173). -/
def endTransmitU (s : State) : State :=
  if s.ciu.uTx then s.setCiu { s.ciu with up := s.ciu.up.tail, uTx := !s.ciu.up.tail.isEmpty } else s

/-! ## Partners (R163 to R165) -/

/-- The D partner is lost (R164). -/
def loseD (s : State) : State :=
  if s.ciu.dPartner then
    (s.setCiu { s.ciu with dPartner := false, down := [], dTx := false, dRx := false }).countLink fun k =>
      { k with
        downstreamDiscards := satAdd k.downstreamDiscards s.ciu.down.length
        dPartnerLosses := satInc k.dPartnerLosses }
  else s

/-- The U partner is lost (R165). -/
def loseU (s : State) : State :=
  if s.ciu.uPartner then
    (s.setCiu { s.ciu with uPartner := false, up := [], uTx := false, uRx := false }).countLink fun k =>
      { k with
        upstreamDiscards := satAdd k.upstreamDiscards s.ciu.up.length
        uPartnerLosses := satInc k.uPartnerLosses }
  else s

/-! ## Hard reset (R111, R126) -/

/-- The state after a hard reset: every block at its reset values. The levels on the input pins are the outside world's,
and the queue of commands and the count of free choices are the model's own; all three are kept (log 4). -/
def hardReset (s : State) : State :=
  ((State.reset.setPins s.pins).setPending s.pending).setFreeIndex s.freeIndex

/-! ## The commands -/

/-- HARD_RESET (R111). -/
def execHardReset (s : State) : Host.Outcome State Fault Refusal := .next (hardReset s)

/-- ENUM (R171). -/
def execEnum (hop : Byte) (s : State) : Host.Outcome State Fault Refusal :=
  .next (acceptFrame (.enum hop) (actEnum hop) s)

/-- CYCLE (R167). -/
def execCycle (f : CycleFrame) (s : State) : Host.Outcome State Fault Refusal :=
  .next (acceptFrame (.cycle f) (takeCycle f) s)

/-- U_FRAME_DISCARDED (R166). -/
def execUFrameDiscarded (bytes : List Byte) (s : State) : Host.Outcome State Fault Refusal := .next (receiveU bytes s)

/-- D_TRANSMIT_END (R168). -/
def execDTransmitEnd (s : State) : Host.Outcome State Fault Refusal := .next (endTransmitD s)

/-- U_TRANSMIT_END (R173). -/
def execUTransmitEnd (s : State) : Host.Outcome State Fault Refusal := .next (endTransmitU s)

/-- RETURN_FRAME_RECEIVED (R172). -/
def execReturnFrameReceived (bytes : List Byte) (s : State) : Host.Outcome State Fault Refusal :=
  .next (receiveD bytes s)

/-- D_PARTNER_LOST (R164). -/
def execDPartnerLost (s : State) : Host.Outcome State Fault Refusal := .next (loseD s)

/-- D_PARTNER_GAINED (R164). -/
def execDPartnerGained (s : State) : Host.Outcome State Fault Refusal :=
  .next (s.setCiu { s.ciu with dPartner := true })

/-- U_PARTNER_LOST (R165). -/
def execUPartnerLost (s : State) : Host.Outcome State Fault Refusal := .next (loseU s)

/-- U_PARTNER_GAINED (R165). -/
def execUPartnerGained (s : State) : Host.Outcome State Fault Refusal :=
  .next (s.setCiu { s.ciu with uPartner := true })

/-- FRAME_RECEPTION_BEGINS (R163). -/
def execFrameReceptionBegins (p : Port) (s : State) : Host.Outcome State Fault Refusal := .next (beginReception p s)

end Sys2Proof.Machine
end

