-- ==== Sys2Proof/Machine/Timed.lean ====
section
/-! DEFINITION. The timed events: when each is due (R2), what each does, which are due now, and one tick of node time
(R1). -/

namespace Sys2Proof.Machine

/-! ## When a timed event is due (R2) -/

/-- Whether a present time has been reached. -/
def timeDue (now : Time) : Option Time → Bool
  | none => false
  | some d => reached now d

/-- GAP-END, not yet found reached (R32). -/
def LegCond.gapDue (now : Time) : LegCond → Bool
  | .gap _ e false => reached now e
  | _ => false

/-- MIN-ON-END (R33). -/
def LegCond.minOnDue (now : Time) : LegCond → Bool
  | .on _ _ e _ _ => timeDue now e
  | _ => false

/-- MAX-ON-END (R34). -/
def LegCond.maxOnDue (now : Time) : LegCond → Bool
  | .on _ _ _ e _ => timeDue now e
  | _ => false

/-- SETTLE-END, not yet found reached (R43). -/
def LegCond.settleDue (now : Time) : LegCond → Bool
  | .safe _ (.settling e false) _ => reached now e
  | _ => false

/-- The deadline of an open watch (R77). -/
def Monitor.watchDue (now : Time) : Monitor → Bool
  | .watching _ _ d => reached now d
  | _ => false

/-- The end of a running filter (R79). -/
def Monitor.filterDue (now : Time) : Monitor → Bool
  | .filtering d => reached now d
  | _ => false

/-- DEADLINE of a QUALIFYING channel (R96, R97). -/
def Channel.qualifyDue (now : Time) : Channel → Bool
  | .qualifying d _ _ => reached now d
  | _ => false

/-- DEADLINE of a HOLDING channel (R101). -/
def Channel.releaseDue (now : Time) : Channel → Bool
  | .holding d => reached now d
  | _ => false

/-- The awaited window closes (R5, R9, R13). -/
def windowDue (s : State) : Bool := decide (s.ctu.lock ≠ .none) && reached s.now (windowClose s.ctu)

/-- The DUE of the schedule's head is reached (R60). -/
def headDue (s : State) : Bool := timeDue s.now (s.esu.schedule.head?.map SchedEntry.due)

/-! ## What each does -/

/-- WINDOW_CLOSE (R9, R13). -/
def execWindowClose (s : State) : Host.Outcome State Fault Refusal :=
  .next <|
    if windowDue s then
      match s.ncu.state with
      | .unaddressed => s
      | .standby => s
      | .syncing => coastSyncing s
      | .running => coastRunning s
      | .halted => s
    else s

/-- SCHEDULE_TAKE (R60). -/
def execScheduleTake (s : State) : Host.Outcome State Fault Refusal :=
  .next <|
    if headDue s then
      takeEntries (splitDue s.esu.schedule).1 (s.setSchedule (splitDue s.esu.schedule).2)
    else s

/-- PULSE_END (R62). -/
def execPulseEnd (x : StrobeId) (s : State) : Host.Outcome State Fault Refusal :=
  .next <|
    if timeDue s.now (s.esu.pulses.get x) then s.setEsu { s.esu with pulses := s.esu.pulses.set x none } else s

/-- GAP_END (R32). -/
def execGapEnd (l : LegId) (s : State) : Host.Outcome State Fault Refusal :=
  .next <|
    match (s.leg l).cond with
    | .gap sw e false =>
      if reached s.now e then judgeLeg l (s.setLeg l { s.leg l with cond := .gap sw e true }) else s
    | _ => s

/-- MIN_ON_END (R33). -/
def execMinOnEnd (l : LegId) (s : State) : Host.Outcome State Fault Refusal :=
  .next <|
    match (s.leg l).cond with
    | .on side onSince (some e) maxEnd deferred =>
      if reached s.now e then
        let t := s.setLeg l { s.leg l with cond := .on side onSince none maxEnd none }
        match deferred with
        | none => t
        | some target => requestLeg l target t
      else s
    | _ => s

/-- MAX_ON_END (R34, R35). -/
def execMaxOnEnd (l : LegId) (s : State) : Host.Outcome State Fault Refusal :=
  .next <|
    match (s.leg l).cond with
    | .on side _ _ (some e) _ =>
      if reached s.now e then
        let action := (s.legParams l).overlongAction
        let t := report (.overlong l side action s.now) (putLeg l (Leg.offAt s.now .off) s)
        match action with
        | .off => t
        | .trip => addCause l .overlong false t
      else s
    | _ => s

/-- SETTLE_END (R43). -/
def execSettleEnd (l : LegId) (s : State) : Host.Outcome State Fault Refusal :=
  .next <|
    match (s.leg l).cond with
    | .safe causes (.settling e false) clamp =>
      if reached s.now e then judgeLeg l (s.setLeg l { s.leg l with cond := .safe causes (.settling e true) clamp })
      else s
    | _ => s

/-- WATCH_DEADLINE (R77). -/
def execWatchDeadline (l : LegId) (sw : Switch) (s : State) : Host.Outcome State Fault Refusal :=
  .next <|
    match s.monitor l sw with
    | .watching expected _ d => if reached s.now d then failWatch l sw expected s else s
    | _ => s

/-- FILTER_END (R79). -/
def execFilterEnd (l : LegId) (sw : Switch) (s : State) : Host.Outcome State Fault Refusal :=
  .next <|
    match s.monitor l sw with
    | .filtering d => if reached s.now d then disagree l sw s else s
    | _ => s

/-- QUALIFY_DEADLINE (R96, R97). -/
def execQualifyDeadline (n : ChanId) (s : State) : Host.Outcome State Fault Refusal :=
  .next <|
    match s.channel n with
    | .qualifying d _ forced => if reached s.now d then tripChannel n forced s else s
    | _ => s

/-- RELEASE (R101). -/
def execRelease (n : ChanId) (s : State) : Host.Outcome State Fault Refusal :=
  .next <|
    match s.channel n with
    | .holding d => if reached s.now d then releaseChannel n .holdEnd s else s
    | _ => s

/-! ## What is due now, and one tick -/

/-- An event as a list, empty when it is not due. -/
def whenDue (due : Bool) (i : Instr) : List Instr := if due then [i] else []

/-- The timed events of leg `l` that are due. -/
def dueOfLeg (l : LegId) (s : State) : List Instr :=
  whenDue ((s.leg l).cond.gapDue s.now) (.gapEnd l) ++ whenDue ((s.leg l).cond.minOnDue s.now) (.minOnEnd l) ++
    whenDue ((s.leg l).cond.maxOnDue s.now) (.maxOnEnd l) ++ whenDue ((s.leg l).cond.settleDue s.now) (.settleEnd l)

/-- The timed events of a switch's monitor that are due. -/
def dueOfMonitor (x : LegId × Switch) (s : State) : List Instr :=
  whenDue ((s.monitor x.1 x.2).watchDue s.now) (.watchDeadline x.1 x.2) ++
    whenDue ((s.monitor x.1 x.2).filterDue s.now) (.filterEnd x.1 x.2)

/-- The timed events of channel `n` that are due. -/
def dueOfChannel (n : ChanId) (s : State) : List Instr :=
  whenDue ((s.channel n).qualifyDue s.now) (.qualifyDeadline n) ++
    whenDue ((s.channel n).releaseDue s.now) (.release n)

/-- Every timed event that is due now (R2). -/
def dueCommands (s : State) : List Instr :=
  whenDue (windowDue s) .windowClose ++ whenDue (headDue s) .scheduleTake ++
    (allStrobes.flatMap fun x => whenDue (timeDue s.now (s.esu.pulses.get x)) (.pulseEnd x)) ++
    (allLegs.flatMap fun l => dueOfLeg l s) ++ (allSwitches.flatMap fun x => dueOfMonitor x s) ++
    (allChans.flatMap fun n => dueOfChannel n s)

/-- Insert an event before the first event of a greater rank. -/
def insertByRank (rank : Instr → Nat) (i : Instr) : List Instr → List Instr
  | [] => [i]
  | x :: rest => if rank i < rank x then i :: x :: rest else x :: insertByRank rank i rest

/-- Events in the order of a rank. -/
def sortByRank (rank : Instr → Nat) : List Instr → List Instr
  | [] => []
  | i :: rest => insertByRank rank i (sortByRank rank rest)

/-- The greatest dead time a bank holds (Table 31). -/
def maxDeadTime : Nat := 1023

/-- A leg at a new node time: once the greatest dead time has passed since LAST-OFF, every sum of LAST-OFF and a dead
time stays reached (R2, log 7). -/
def restLeg (now : Time) (x : Leg) : Leg :=
  if maxDeadTime ≤ (now - x.lastOff).toNat then { x with rested := true } else x

/-- One tick of node time (R1). -/
def tick (s : State) : State :=
  let now := s.now + 1
  (s.setCtu { s.ctu with nodeTime := now }).setLge
    { s.lge with legs := PerLeg.tabulate fun l => restLeg now (s.leg l) }

/-- What the node does when no command waits: the timed events that are due are put in the queue, in the free order of
log 2; where none is due one tick passes (log 1). -/
def runIdle (s : State) : State :=
  match dueCommands s with
  | [] => tick s
  | due => (s.setPending (sortByRank (Config.takeRank s.freeIndex) due)).setFreeIndex (s.freeIndex + 1)

end Sys2Proof.Machine
end

