-- ==== Sys2Proof/Machine/Dispatch.lean ====
section
/-! DEFINITION. The meaning of each command: one arm per constructor of Instr, each one direct call. -/

namespace Sys2Proof.Machine

/-- The effect of one command on everything but the queue. -/
def exec (i : Instr) (s : State) : Host.Outcome State Fault Refusal :=
  match i with
  | .hardReset => Sys2Proof.Machine.execHardReset s
  | .enum hop => Sys2Proof.Machine.execEnum hop s
  | .cycle frame => Sys2Proof.Machine.execCycle frame s
  | .uFrameDiscarded bytes => Sys2Proof.Machine.execUFrameDiscarded bytes s
  | .dTransmitEnd => Sys2Proof.Machine.execDTransmitEnd s
  | .uTransmitEnd => Sys2Proof.Machine.execUTransmitEnd s
  | .returnFrameReceived bytes => Sys2Proof.Machine.execReturnFrameReceived bytes s
  | .dPartnerLost => Sys2Proof.Machine.execDPartnerLost s
  | .dPartnerGained => Sys2Proof.Machine.execDPartnerGained s
  | .uPartnerLost => Sys2Proof.Machine.execUPartnerLost s
  | .uPartnerGained => Sys2Proof.Machine.execUPartnerGained s
  | .windowClose => Sys2Proof.Machine.execWindowClose s
  | .scheduleTake => Sys2Proof.Machine.execScheduleTake s
  | .pulseEnd x => Sys2Proof.Machine.execPulseEnd x s
  | .gapEnd l => Sys2Proof.Machine.execGapEnd l s
  | .minOnEnd l => Sys2Proof.Machine.execMinOnEnd l s
  | .maxOnEnd l => Sys2Proof.Machine.execMaxOnEnd l s
  | .settleEnd l => Sys2Proof.Machine.execSettleEnd l s
  | .feedbackInputChange l sw v => Sys2Proof.Machine.execFeedbackInputChange l sw v s
  | .watchDeadline l sw => Sys2Proof.Machine.execWatchDeadline l sw s
  | .filterEnd l sw => Sys2Proof.Machine.execFilterEnd l sw s
  | .faultAssertion n => Sys2Proof.Machine.execFaultAssertion n s
  | .faultDeassertion n => Sys2Proof.Machine.execFaultDeassertion n s
  | .qualifyDeadline n => Sys2Proof.Machine.execQualifyDeadline n s
  | .release n => Sys2Proof.Machine.execRelease n s
  | .echo h data => Sys2Proof.Machine.execEcho h data s
  | .status h => Sys2Proof.Machine.execStatus h s
  | .counters h group page clearFlag => Sys2Proof.Machine.execCounters h group page clearFlag s
  | .read h bank table index => Sys2Proof.Machine.execRead h bank table index s
  | .write h table index record => Sys2Proof.Machine.execWrite h table index record s
  | .copy h => Sys2Proof.Machine.execCopy h s
  | .commitImmediate h disregarded => Sys2Proof.Machine.execCommitImmediate h disregarded s
  | .commitTargeted h target => Sys2Proof.Machine.execCommitTargeted h target s
  | .cancel h => Sys2Proof.Machine.execCancel h s
  | .arm h => Sys2Proof.Machine.execArm h s
  | .disarm h => Sys2Proof.Machine.execDisarm h s
  | .clear h legs => Sys2Proof.Machine.execClear h legs s
  | .resume h => Sys2Proof.Machine.execResume h s
  | .flush h => Sys2Proof.Machine.execFlush h s
  | .restart h => Sys2Proof.Machine.execRestart h s
  | .unknown h code params => Sys2Proof.Machine.execUnknown h code params s
  | .frameReceptionBegins p => Sys2Proof.Machine.execFrameReceptionBegins p s

end Sys2Proof.Machine
end

