-- ==== Sys2Proof/Safety.lean ====
section
/-! DEFINITION. What counts as a safe run: the conditions on a state that the manual says always hold, in the terms the
statements use. -/

namespace Sys2Proof.Machine

/-! ## Stores keep their bounds (R56, R147, Table 40) -/

/-- The report queue holds at most 48 records, the schedule at most 64 entries, each forward buffer at most 2 frames. -/
def StoresBounded (s : State) : Prop :=
  s.rpu.queue.length ≤ 48 ∧ s.esu.schedule.length ≤ 64 ∧ s.ciu.down.length ≤ 2 ∧ s.ciu.up.length ≤ 2

/-! ## Accounting (R84, R154) -/

/-- The number of a class's records in a queue. -/
def countClass (k : RecClass) (q : List Record) : Nat := (q.filter fun r => decide (r.cls = k)).length

/-- The number of leg `l`'s EDGE records in a queue. -/
def countEdges (l : LegId) (q : List Record) : Nat := (q.filter fun r => decide (r.body.edgeLeg = some l)).length

/-- One class balances: PLACED is SENT plus DROPPED plus HELD, and HELD is the number of its records in the queue. -/
def ClassBalanced (k : RecClass) (s : State) : Prop :=
  (s.rpu.accounting.get k).placed =
      (s.rpu.accounting.get k).sent + (s.rpu.accounting.get k).dropped + (s.rpu.accounting.get k).held ∧
    (s.rpu.accounting.get k).held = BitVec.ofNat 32 (countClass k s.rpu.queue)

/-- Every class balances (R154). -/
def AccountsBalanced (s : State) : Prop :=
  ClassBalanced .f s ∧ ClassBalanced .m s ∧ ClassBalanced .e s ∧ ClassBalanced .c s

/-- Every EDGE count is the number of the leg's EDGE records in the queue, and at most 2 (R84). -/
def EdgesCounted (s : State) : Prop :=
  ∀ l, s.fbm.edgeCounts.get l = countEdges l s.rpu.queue ∧ s.fbm.edgeCounts.get l ≤ 2

/-- The report queue keeps its bound, and its counters fit its content (R84, R147, R154). -/
def ReportsOk (s : State) : Prop := s.rpu.queue.length ≤ 48 ∧ AccountsBalanced s ∧ EdgesCounted s

/-! ## Node state (R111, R127, section 3.1, R74) -/

/-- The lock stage fits the node state (section 1.2). -/
def LockFits (s : State) : Prop :=
  match s.ncu.state with
  | .unaddressed => s.ctu.lock = .none
  | .standby => s.ctu.lock = .none
  | .syncing => s.ctu.lock ≠ .locked
  | .running => s.ctu.lock = .locked
  | .halted => s.ctu.lock = .none

/-- The halt-cause set is non-empty exactly in HALTED (R111); the node has an address, 1..16, exactly when it is not
UNADDRESSED; the lock stage fits the node state; a commit is pending only in SYNCING or RUNNING (R133); the schedule is
empty and both strobes low outside RUNNING (section 3.1, R64); the monitors are idle in UNADDRESSED and STANDBY (R74). -/
def NodeConsistent (s : State) : Prop :=
  (s.ncu.causes.isEmpty = decide (s.ncu.state ≠ .halted)) ∧
    (s.ciu.address.isNone = decide (s.ncu.state = .unaddressed)) ∧
    (∀ a, s.ciu.address = some a → 1 ≤ a.toNat ∧ a.toNat ≤ 16) ∧
    LockFits s ∧
    (s.bks.pending.isSome → s.ncu.state = .syncing ∨ s.ncu.state = .running) ∧
    (s.ncu.state ≠ .running → s.esu.schedule = [] ∧ s.esu.pulses = { s0 := none, s1 := none }) ∧
    (s.ncu.state.monitors = false → s.fbm.monitors = monitorsIdle)

/-! ## Banks (R128) -/

/-- The active bank passes V1 to V7, and so does the shadow while a commit is pending (R128, R135). -/
def BanksValid (s : State) : Prop :=
  validate s.activeBank = none ∧ (s.bks.pending.isSome → validate s.shadowBank = none)

/-! ## Legs (Table 9, R36, R37, R112) -/

/-- A set field that Table 9 says is non-empty is so. -/
def LegCond.setsFilled : LegCond → Bool
  | .off => true
  | .on _ _ _ _ _ => true
  | .gap _ _ _ => true
  | .heldOff h => !h.isEmpty
  | .safe cs _ _ => !cs.isEmpty

/-- The leg neither drives nor waits to drive its lower switch (R36). -/
def LegCond.sparesLower : LegCond → Bool
  | .off => true
  | .on side _ _ _ _ => decide (side = .upper)
  | .gap sw _ _ => decide (sw = .upper)
  | .heldOff _ => true
  | .safe _ .opened _ => true
  | .safe _ (.settling _ _) clamp => decide (clamp ≠ some .lower)
  | .safe _ .clamped clamp => decide (clamp ≠ some .lower)

/-- The leg is driven by no request and waits for none: it is OFF, HELD-OFF or SAFE. -/
def LegCond.unrequested : LegCond → Bool
  | .off => true
  | .on _ _ _ _ _ => false
  | .gap _ _ _ => false
  | .heldOff _ => true
  | .safe _ _ _ => true

/-- The leg is OFF, HELD-OFF, or SAFE with phase OPEN: no output is on and none is about to be. -/
def LegCond.inert : LegCond → Bool
  | .off => true
  | .on _ _ _ _ _ => false
  | .gap _ _ _ => false
  | .heldOff _ => true
  | .safe _ .opened _ => true
  | .safe _ (.settling _ _) _ => false
  | .safe _ .clamped _ => false

/-- One leg's condition fits its mode and the node state: sets filled as Table 9 says, a DISABLED leg OFF (R37), a
SINGLE leg without its lower switch (R36), only RUNNING legs driven by requests, and no clamp in UNADDRESSED or STANDBY
(R44, R47, R112). -/
def LegFits (l : LegId) (s : State) : Prop :=
  (s.leg l).cond.setsFilled = true ∧
    (s.legEnabled l = false → (s.leg l).cond = .off) ∧
    ((s.legParams l).mode = .single → (s.leg l).cond.sparesLower = true) ∧
    (s.ncu.state ≠ .running → (s.leg l).cond.unrequested = true) ∧
    (s.ncu.state.forbidsClamp = true → (s.leg l).cond.inert = true)

/-- Every leg fits. -/
def LegsFit (s : State) : Prop := ∀ l, LegFits l s

/-! ## The schedule (R56) -/

/-- How far an entry's DUE lies ahead of node time. -/
def aheadOf (now : Time) (e : SchedEntry) : Nat := (e.due - now).toNat

/-- Entries in non-decreasing due-time order. -/
def dueOrdered (now : Time) : List SchedEntry → Prop
  | [] => True
  | [_] => True
  | e :: x :: rest => aheadOf now e ≤ aheadOf now x ∧ dueOrdered now (x :: rest)

/-- No two entries with the same destination and due time. -/
def destDistinct : List SchedEntry → Prop
  | [] => True
  | e :: rest => (∀ x ∈ rest, ¬(x.work.dest = e.work.dest ∧ x.due = e.due)) ∧ destDistinct rest

/-- The schedule is in due-time order, every DUE lies less than 2^31 ticks ahead, and no two entries have the same
destination and due time (R56). -/
def ScheduleOrdered (s : State) : Prop :=
  dueOrdered s.now s.esu.schedule ∧ (∀ e ∈ s.esu.schedule, aheadOf s.now e < 2 ^ 31) ∧ destDistinct s.esu.schedule

/-! ## What a command leaves unchanged -/

/-- From `s` to `t` only the LGE, the monitors and the feedback counters may change. -/
structure SameButLegs (s t : State) : Prop where
  ctu : t.ctu = s.ctu
  esu : t.esu = s.esu
  pru : t.pru = s.pru
  bks : t.bks = s.bks
  rpu : t.rpu = s.rpu
  mgu : t.mgu = s.mgu
  ncu : t.ncu = s.ncu
  ciu : t.ciu = s.ciu
  pins : t.pins = s.pins
  pending : t.pending = s.pending
  freeIndex : t.freeIndex = s.freeIndex
  edgeCounts : t.fbm.edgeCounts = s.fbm.edgeCounts

/-- From `s` to `t` only the RPU, the EDGE counts and the feedback counters may change. -/
structure SameButReports (s t : State) : Prop where
  ctu : t.ctu = s.ctu
  esu : t.esu = s.esu
  lge : t.lge = s.lge
  pru : t.pru = s.pru
  bks : t.bks = s.bks
  mgu : t.mgu = s.mgu
  ncu : t.ncu = s.ncu
  ciu : t.ciu = s.ciu
  pins : t.pins = s.pins
  pending : t.pending = s.pending
  freeIndex : t.freeIndex = s.freeIndex
  monitors : t.fbm.monitors = s.fbm.monitors

/-- From `s` to `t` the node's own blocks may change; time, pins, ports, response store, banks and queue may not. -/
structure SameOutside (s t : State) : Prop where
  now : t.now = s.now
  pins : t.pins = s.pins
  ciu : t.ciu = s.ciu
  mgu : t.mgu = s.mgu
  bankA : t.bks.bankA = s.bks.bankA
  bankB : t.bks.bankB = s.bks.bankB
  pending : t.pending = s.pending
  freeIndex : t.freeIndex = s.freeIndex

/-- What a monitor becomes when its switch is commanded to `level` at `now`, its input showing `shown` (R75, R82, R86):
IDLE stays; with CONFIRM-WINDOW 0 it is IDLE; QUIET when the input shows the level; otherwise a watch. -/
def monitorAfter (p : LegRecord) (m : Monitor) (shown level : Bool) (now : Time) : Monitor :=
  match m with
  | .idle => .idle
  | _ =>
    if p.confirmWindow = 0 then .idle
    else if shown = level then .quiet
    else .watching level now (now + p.confirmWindow.setWidth 32)

/-- From `s` to `t` leg `l`'s monitors follow its outputs: a switch whose output is the same keeps its monitor, and one
whose output changed has the monitor R75 gives. -/
def MonitorsFollow (l : LegId) (s t : State) : Prop :=
  ∀ sw, t.monitor l sw =
    if t.commanded l sw = s.commanded l sw then s.monitor l sw
    else monitorAfter (s.legParams l) (s.monitor l sw) (s.feedbackOn l sw) (t.commanded l sw) s.now

/-- From `s` to `t` only leg `l`'s record, its monitors and the counters "requests refused", "deferred replaced" and
"watches replaced" may change. -/
structure LegFrame (l : LegId) (s t : State) : Prop where
  blocks : SameButLegs s t
  legs : ∀ k, k ≠ l → t.leg k = s.leg k
  monitors : ∀ k sw, k ≠ l → t.monitor k sw = s.monitor k sw
  confirmFailures : t.fbm.counters.confirmFailures = s.fbm.counters.confirmFailures
  disagreements : t.fbm.counters.disagreements = s.fbm.counters.disagreements
  edgeOverruns : t.fbm.counters.edgeOverruns = s.fbm.counters.edgeOverruns

/-- Whether the change of a switch's output from `s` to `t` replaces a watch: one is open on it, and CONFIRM-WINDOW is
not 0, with which the watch would be closed and none opened (R75, R86). -/
def watchReplaced (l : LegId) (sw : Switch) (s t : State) : Bool :=
  decide (t.commanded l sw ≠ s.commanded l sw) && decide ((s.legParams l).confirmWindow ≠ 0) &&
    match s.monitor l sw with
    | .watching _ _ _ => true
    | _ => false

/-- From `s` to `t` "watches replaced" has increased by 1 for each switch of leg `l` whose open watch was replaced
(R75). -/
def WatchesReplaced (l : LegId) (s t : State) : Prop :=
  t.fbm.counters.watchesReplaced =
    satAdd s.fbm.counters.watchesReplaced
      ((watchReplaced l .upper s t).toNat + (watchReplaced l .lower s t).toNat)

/-! ## Decoded entries (Table 14) -/

/-- Test 1 fails: KIND-MISMATCH. -/
def FailsKind (d : Dest) (e : Entry) : Prop :=
  match d with
  | .leg _ => e.kind = .strobe
  | .strobe _ => e.kind ≠ .strobe

/-- Test 2 fails: BAD-TARGET. -/
def FailsTarget (b : Bank) (d : Dest) (e : Entry) : Prop :=
  (∃ l, d = .leg l ∧ (b.legs.get l).mode = .single ∧ e.target = .lower) ∨
    ((e.kind = .pulse ∨ e.kind = .centred) ∧ e.target = .off)

/-- Test 3 fails: BAD-OFFSET. -/
def FailsOffset (period : Half) (e : Entry) : Prop := e.kind ≠ .centred ∧ period.toNat ≤ e.offset.toNat

/-- Test 4 fails: BAD-WIDTH. -/
def FailsWidth (period : Half) (e : Entry) : Prop :=
  (e.kind = .pulse ∧ (e.width = 0 ∨ 2 * period.toNat - 1 < e.offset.toNat + e.width.toNat)) ∨
    (e.kind = .centred ∧ (e.width = 0 ∨ period.toNat < e.width.toNat))

/-! ## Validation (R132) -/

/-- Where a record stands in the examination order LEG 0..5, STROBE 0..1, PROTECTION 0..3. -/
def RecordName.place : RecordName → Nat
  | .leg l => legIndex l
  | .strobe x => 6 + strobeIndex x
  | .prot n => 8 + chanIndex n
  | .node => 12

/-- A bank fails check V`v` at the record named. -/
def FailsCheck (b : Bank) (v : Nat) : RecordName → Prop
  | .leg l =>
    (b.legs.get l).mode.enabled = true ∧
      ((v = 1 ∧ (b.legs.get l).address ≠ 0 ∧
          ∃ k, legIndex k < legIndex l ∧ (b.legs.get k).mode.enabled = true ∧
            (b.legs.get k).address = (b.legs.get l).address) ∨
        (v = 2 ∧ (b.legs.get l).address = 0) ∨
        (v = 3 ∧ (b.legs.get l).mode = .single ∧ (b.legs.get l).safeState = .clampLower) ∨
        (v = 4 ∧ (b.legs.get l).maxOn ≠ 0 ∧ (b.legs.get l).maxOn.toNat ≤ (b.legs.get l).minOn.toNat) ∨
        (v = 5 ∧ (b.legs.get l).gapWaitsConfirm = true ∧ (b.legs.get l).confirmWindow = 0))
  | .strobe x =>
    v = 1 ∧ (b.strobes.get x).address ≠ 0 ∧
      ((∃ k, (b.legs.get k).mode.enabled = true ∧ (b.legs.get k).address = (b.strobes.get x).address) ∨
        ∃ y, strobeIndex y < strobeIndex x ∧ (b.strobes.get y).address = (b.strobes.get x).address)
  | .prot n =>
    (b.prot.get n).use = .active ∧
      ((v = 6 ∧ (b.prot.get n).action = .tripLegs ∧
          ((∀ l, (b.prot.get n).legs.get l = false) ∨
            ∃ l, (b.prot.get n).legs.get l = true ∧ (b.legs.get l).mode.enabled = false)) ∨
        (v = 7 ∧ (b.prot.get n).action = .haltNode ∧ (b.prot.get n).latch = .auto))
  | .node => False

/-! ## Conditions the statements use -/

/-- The confirm condition for turning on switch `sw` of leg `l` (R23, condition 3). -/
def ConfirmMet (l : LegId) (sw : Switch) (s : State) : Prop :=
  (s.legParams l).gapWaitsConfirm = false ∨
    ∀ c d, s.monitor l (if (s.legParams l).mode = .single then .upper else otherSwitch sw) ≠ .watching false c d

/-- LAST-OFF plus the dead time of `sw`'s side has been reached (R2, R23). -/
def DeadTimeOver (l : LegId) (sw : Switch) (s : State) : Prop :=
  (s.leg l).rested = true ∨ reached s.now ((s.leg l).lastOff + deadOf (s.legParams l) sw) = true

/-- The leg waits for switch `sw` in GAP or SETTLING with an end that has been reached (R32, R43). -/
def WaitsReached (l : LegId) (sw : Switch) (s : State) : Prop :=
  (∃ e r, (s.leg l).cond = .gap sw e r ∧ (r = true ∨ reached s.now e = true)) ∨
    ∃ cs e r, (s.leg l).cond = .safe cs (.settling e r) (some sw) ∧ (r = true ∨ reached s.now e = true)

/-- The reception of a frame ends at U: a partner is there and a frame is being received (R163). -/
def EndsAtU (s : State) : Prop := s.ciu.uPartner = true ∧ s.ciu.uRx = true

/-- A request arrives whole at U, is meant for this node, and is no retransmission (R170, R177). -/
def FreshRequest (h : ManageHead) (r : Request) (s : State) : Prop :=
  EndsAtU s ∧ (∃ a, s.ciu.address = some a ∧ (h.dest = 0 ∨ h.dest = a)) ∧
    ∀ x, s.mgu.store = some x → ¬(x.seq = h.seq ∧ x.code = r.code)

/-- The node is in SYNCING or RUNNING. -/
def Operating (s : State) : Prop := s.ncu.state = .syncing ∨ s.ncu.state = .running

/-- Offset of the candidate mark of a frame accepted now from the centre of the awaited window (R4, R5). -/
def markOffset (s : State) : Int :=
  (s.now + s.nodeParams.delayComp.setWidth 32 - (s.ctu.nominal + s.ctu.period.setWidth 32)).toInt

/-- A candidate formed now lies inside the awaited window (R5). -/
def InWindow (s : State) : Prop :=
  -(s.ctu.tolerance.toNat : Int) ≤ markOffset s ∧ markOffset s ≤ (s.ctu.tolerance.toNat : Int)

/-- The awaited window closes now (R5). -/
def WindowCloses (s : State) : Prop :=
  s.ctu.lock ≠ .none ∧ reached s.now (s.ctu.nominal + s.ctu.period.setWidth 32 + s.ctu.tolerance.setWidth 32) = true

/-- A leg of a mode has a switch that R74's condition 2 lets be monitored. -/
def MonitoredSide (m : LegMode) (sw : Switch) : Prop := m = .complementary ∨ (m = .single ∧ sw = .upper)

/-- The leg waits for switch `w` in GAP or SETTLING, its end found reached, the confirm condition being unmet then (R26,
R32, R43). -/
def WaitsConfirm (l : LegId) (w : Switch) (s : State) : Prop :=
  (∃ e, (s.leg l).cond = .gap w e true) ∨ ∃ cs e, (s.leg l).cond = .safe cs (.settling e true) (some w)

/-- From `q` to `t` an EDGE record of a watch commanded at `c` follows where it is `due`: it is created below the per-leg
limit, and counted as an overrun, and as PLACED and DROPPED of class C, at it (R83, R84). -/
def EdgeFollows (l : LegId) (sw : Switch) (direction : Bool) (c : Time) (due : Prop) (q t : State) : Prop :=
  (¬due → t = q) ∧
    (due → q.fbm.edgeCounts.get l < 2 →
      t = report (.edge l sw direction q.now ((q.now - c).setWidth 16)) q) ∧
    (due → 2 ≤ q.fbm.edgeCounts.get l →
      t = (q.setRpu { q.rpu with
            accounting := { q.rpu.accounting with
              c := { q.rpu.accounting.c with
                placed := q.rpu.accounting.c.placed + 1, dropped := q.rpu.accounting.c.dropped + 1 } } }).countFeedback
          fun k => { k with edgeOverruns := satInc k.edgeOverruns })

/-- FAST gives leg `l` a force order when channel `n` takes an assertion: the leg lies in the affected set (R90, R93). -/
def FastForces (n : ChanId) (l : LegId) (s : State) : Prop :=
  (s.protParams n).fast = true ∧
    match (s.protParams n).action with
    | .tripLegs => (s.protParams n).legs.get l = true
    | .haltNode => s.legEnabled l = true

/-- A commit is pending whose target the mark of cycle `number` reaches or passes (R15, R136). -/
def MarkSwaps (number : Half) (s : State) : Prop := ∃ g, s.bks.pending = some g ∧ (number - g).toNat ≤ 32767

/-- Each channel's state fits the reading of its input: asserted in QUALIFYING and ACTIVE, deasserted in IDLE and
HOLDING (R91). -/
def ChannelsFollowInputs (s : State) : Prop :=
  ∀ n, s.faultAsserted n =
    (match s.channel n with
      | .idle => false
      | .qualifying _ _ _ => true
      | .active => true
      | .holding _ => false)

/-- `sent`, one after another, are the heads in removal order of queue `q`, and `left` is what remains (R153, R157). -/
def RemovalRun : List Record → List Record → List Record → Prop
  | q, [], left => left = q
  | q, r :: sent, left => ∃ rest, removalHead q = some (r, rest) ∧ RemovalRun rest sent left

/-- Rank of a class in removal order (R153). -/
def RecClass.rank : RecClass → Nat
  | .f => 0
  | .m => 1
  | .e => 2
  | .c => 3

end Sys2Proof.Machine
end

