-- ==== Sys2Proof/WellFormed.lean ====
section
/-! DEFINITION. Which commands are well formed: the bounds that Tables 48 and 50 set on a frame's fields, and what a
discarded frame may be. -/

namespace Sys2Proof

/-- The downstream frame of a frame command. -/
def Instr.downFrame : Instr → Option Machine.DownFrame
  | .enum hop => some (.enum hop)
  | .cycle f => some (.cycle f)
  | .echo h data => some (.manage h (.echo data))
  | .status h => some (.manage h .status)
  | .counters h g p f => some (.manage h (.counters g p f))
  | .read h b t i => some (.manage h (.read b t i))
  | .write h t i r => some (.manage h (.write t i r))
  | .copy h => some (.manage h .copy)
  | .commitImmediate h x => some (.manage h (.commitImmediate x))
  | .commitTargeted h x => some (.manage h (.commitTargeted x))
  | .cancel h => some (.manage h .cancel)
  | .arm h => some (.manage h .arm)
  | .disarm h => some (.manage h .disarm)
  | .clear h l => some (.manage h (.clear l))
  | .resume h => some (.manage h .resume)
  | .flush h => some (.manage h .flush)
  | .restart h => some (.manage h .restart)
  | .unknown h c p => some (.manage h (.unknown c p))
  | .hardReset => none
  | .uFrameDiscarded _ => none
  | .dTransmitEnd => none
  | .uTransmitEnd => none
  | .returnFrameReceived _ => none
  | .dPartnerLost => none
  | .dPartnerGained => none
  | .uPartnerLost => none
  | .uPartnerGained => none
  | .windowClose => none
  | .scheduleTake => none
  | .pulseEnd _ => none
  | .gapEnd _ => none
  | .minOnEnd _ => none
  | .maxOnEnd _ => none
  | .settleEnd _ => none
  | .feedbackInputChange _ _ _ => none
  | .watchDeadline _ _ => none
  | .filterEnd _ _ => none
  | .faultAssertion _ => none
  | .faultDeassertion _ => none
  | .qualifyDeadline _ => none
  | .release _ => none
  | .frameReceptionBegins _ => none

/-- Whether received bytes are no good downstream frame, as those of a discarded frame are (R166). -/
def discardable (bytes : List Byte) : Bool :=
  match Machine.hear bytes with
  | .bad => true
  | .up _ => true
  | .down _ => false

/-- A command is well formed when its frame's fields are within the bounds of Tables 48 and 50, or, for
U_FRAME_DISCARDED, when the frame received is one that R166 discards. -/
def Instr.wellFormed (i : Instr) : Bool :=
  match i.downFrame with
  | some f => f.formOk
  | none =>
    match i with
    | .uFrameDiscarded bytes => discardable bytes
    | _ => true

end Sys2Proof
end

