-- ==== Sys2Proof/Certificates/Slice0/Obligations.lean ====
section
/-! DEFINITION. The statements put to the provers. `exec c s = .next t` says that command `c` completes in state `s` with
next state `t`; for a frame command, `passOn f u` is the node after it has acted (`u`) and passed the frame on. -/

open Sys2Proof Sys2Proof.Machine

/-! ## One step, time and the queue -/

/-- A step takes the command at the front of the queue and runs it on the state with the queue's rest. The queue and the
step are the model's own: the manual has events at instants and neither of the two (log 1, log 18). -/
def Obligations.StepTakesTheFrontCommand : Prop :=
  ∀ (c : Instr) (rest : List Instr) (s : State), step (s.setPending (c :: rest)) = exec c (s.setPending rest)

/-- With no command waiting and no timed event due, a step is one tick: node time advances by 1 and no leg, no other
time value and no other item changes, apart from the mark that a leg has rested (log 1, log 7). -/
def Obligations.IdleStepIsOneTick : Prop :=
  ∀ s : State, s.pending = [] → dueCommands s = [] →
    ∃ t, step s = .next t ∧ t.now = s.now + 1 ∧
      t = (s.setCtu { s.ctu with nodeTime := s.now + 1 }).setLge { s.lge with legs := t.lge.legs } ∧
      ∀ l, (t.leg l).cond = (s.leg l).cond ∧ (t.leg l).lastOff = (s.leg l).lastOff ∧
        (t.leg l).rested = ((s.leg l).rested || decide (1023 ≤ (t.now - (s.leg l).lastOff).toNat))

/-- With no command waiting, the timed events that are due enter the queue, each once, in some order, and nothing else
changes but the count of free choices (log 1, log 2). An event is due exactly when the node holds its time value and
node time has reached it (R2): the eleven timed rows' due commands are those listed, no other command is due, and none
is due twice. -/
def Obligations.DueEventsEnterTheQueueAtTheirTimes : Prop :=
  (∀ s : State, s.pending = [] → dueCommands s ≠ [] →
      ∃ t, step s = .next t ∧ t.pending.Perm (dueCommands s) ∧
        t = (s.setPending t.pending).setFreeIndex (s.freeIndex + 1)) ∧
  (∀ s : State,
      (Instr.windowClose ∈ dueCommands s ↔ WindowCloses s) ∧
        (Instr.scheduleTake ∈ dueCommands s ↔ ∃ e rest, s.esu.schedule = e :: rest ∧ reached s.now e.due = true) ∧
        (∀ x, Instr.pulseEnd x ∈ dueCommands s ↔ ∃ d, s.esu.pulses.get x = some d ∧ reached s.now d = true) ∧
        (∀ l, Instr.gapEnd l ∈ dueCommands s ↔
          ∃ sw e, (s.leg l).cond = .gap sw e false ∧ reached s.now e = true) ∧
        (∀ l, Instr.minOnEnd l ∈ dueCommands s ↔
          ∃ sd a e m d, (s.leg l).cond = .on sd a (some e) m d ∧ reached s.now e = true) ∧
        (∀ l, Instr.maxOnEnd l ∈ dueCommands s ↔
          ∃ sd a m e d, (s.leg l).cond = .on sd a m (some e) d ∧ reached s.now e = true) ∧
        (∀ l, Instr.settleEnd l ∈ dueCommands s ↔
          ∃ cs e k, (s.leg l).cond = .safe cs (.settling e false) k ∧ reached s.now e = true) ∧
        (∀ l sw, Instr.watchDeadline l sw ∈ dueCommands s ↔
          ∃ e a d, s.monitor l sw = .watching e a d ∧ reached s.now d = true) ∧
        (∀ l sw, Instr.filterEnd l sw ∈ dueCommands s ↔
          ∃ d, s.monitor l sw = .filtering d ∧ reached s.now d = true) ∧
        (∀ n, Instr.qualifyDeadline n ∈ dueCommands s ↔
          ∃ d b v, s.channel n = .qualifying d b v ∧ reached s.now d = true) ∧
        (∀ n, Instr.release n ∈ dueCommands s ↔ ∃ d, s.channel n = .holding d ∧ reached s.now d = true)) ∧
  ∀ s : State, (dueCommands s).Nodup ∧
    ∀ c ∈ dueCommands s,
      c = .windowClose ∨ c = .scheduleTake ∨ (∃ x, c = .pulseEnd x) ∨ (∃ l, c = .gapEnd l) ∨ (∃ l, c = .minOnEnd l) ∨
        (∃ l, c = .maxOnEnd l) ∨ (∃ l, c = .settleEnd l) ∨ (∃ l sw, c = .watchDeadline l sw) ∨
        (∃ l sw, c = .filterEnd l sw) ∨ (∃ n, c = .qualifyDeadline n) ∨ ∃ n, c = .release n

/-- No command changes the queue or the count of free choices; none but HARD_RESET changes node time; a feedback pin
changes by FEEDBACK_INPUT_CHANGE alone and a fault pin by FAULT_ASSERTION and FAULT_DEASSERTION alone (log 4); a bank's
content changes by HARD_RESET, WRITE and COPY alone, and by no command at all while a commit is pending but HARD_RESET
(U_FRAME_DISCARDED carrying a good WRITE or COPY counts as one, log 15). -/
def Obligations.CommandsKeepTimePinsAndBanks : Prop :=
  ∀ (c : Instr) (s t : State), exec c s = .next t →
    t.pending = s.pending ∧ t.freeIndex = s.freeIndex ∧ (c ≠ .hardReset → t.now = s.now) ∧
      ((∀ l sw v, c ≠ .feedbackInputChange l sw v) → t.pins.feedback = s.pins.feedback) ∧
      ((∀ n, c ≠ .faultAssertion n ∧ c ≠ .faultDeassertion n) → t.pins.fault = s.pins.fault) ∧
      (c ≠ .hardReset → (∀ h t i r, c ≠ .write h t i r) → (∀ h, c ≠ .copy h) → (∀ b, c ≠ .uFrameDiscarded b) →
        t.bks.bankA = s.bks.bankA ∧ t.bks.bankB = s.bks.bankB) ∧
      (c ≠ .hardReset → s.bks.pending.isSome = true → t.bks.bankA = s.bks.bankA ∧ t.bks.bankB = s.bks.bankB)

/-! ## Reset and invariants -/

/-- HARD_RESET from any state: the NCU is UNADDRESSED with an empty halt-cause set, no address, node time 0, lock stage
NONE, every leg OFF and DISABLED with LAST-OFF 0, schedule empty and strobes low, monitors and channels IDLE, both banks
at their defaults with A active and no commit, every fault entry UNUSED, the report queue and the response store empty,
and every gate output off. -/
def Obligations.HardResetStatesTheNode : Prop :=
  ∀ s : State, ∃ t, exec .hardReset s = .next t ∧
    t.ncu.state = .unaddressed ∧ t.ncu.causes.isEmpty = true ∧ t.ciu.address = none ∧ t.now = 0 ∧
    t.ctu.lock = .none ∧
    (∀ l, t.leg l = { cond := .off, lastOff := 0, rested := false } ∧ (t.legParams l).mode = .disabled) ∧
    (∀ l sw, t.commanded l sw = false ∧ t.monitor l sw = .idle) ∧
    t.esu.schedule = [] ∧ (∀ x, t.esu.pulses.get x = none) ∧
    (∀ n, t.channel n = .idle ∧ (t.protParams n).use = .unused) ∧
    t.bks.bankA = Bank.initial ∧ t.bks.bankB = Bank.initial ∧ t.bks.active = .a ∧ t.bks.pending = none ∧
    t.rpu.queue = [] ∧ t.mgu.store = none

/-- The state after reset meets every invariant below. -/
def Obligations.ResetMeetsTheInvariants : Prop :=
  StoresBounded State.reset ∧ ReportsOk State.reset ∧ NodeConsistent State.reset ∧ BanksValid State.reset ∧
    LegsFit State.reset ∧ ScheduleOrdered State.reset ∧ ChannelsFollowInputs State.reset

/-- Every step keeps the bounds of the stores: at most 48 records, 64 schedule entries, 2 frames in each buffer (R56,
R147, Table 40); and every step keeps the accounting: for each class PLACED is SENT plus DROPPED plus HELD, HELD is the
number of its records in the queue, and each EDGE count is the number of the leg's EDGE records there, at most 2 (R84,
R154). -/
def Obligations.StepsKeepStoresBoundedAndReportsAccounted : Prop :=
  (∀ s t : State, StoresBounded s → step s = .next t → StoresBounded t) ∧
  (∀ s t : State, ReportsOk s → step s = .next t → ReportsOk t)

/-- Every step keeps the node consistent: halt causes exactly in HALTED, an address 1..16 exactly when addressed, the
lock stage fitting the node state, a commit pending only in SYNCING or RUNNING, an empty schedule and low strobes
outside RUNNING, idle monitors in UNADDRESSED and STANDBY. -/
def Obligations.StepsKeepNodeConsistent : Prop :=
  ∀ s t : State, NodeConsistent s → step s = .next t → NodeConsistent t

/-- Every step keeps the active bank valid, and the shadow while a commit is pending (R128, R135). -/
def Obligations.StepsKeepBanksValid : Prop := ∀ s t : State, BanksValid s → step s = .next t → BanksValid t

/-- Every step keeps every leg fitting its mode and the node state: a DISABLED leg OFF, a SINGLE leg off its lower
switch, gates off in UNADDRESSED and STANDBY, only clamps outside RUNNING (R36, R37, R112). -/
def Obligations.StepsKeepLegsFit : Prop :=
  ∀ s t : State, NodeConsistent s → BanksValid s → LegsFit s → step s = .next t → LegsFit t

/-- Every step keeps the schedule ordered: non-decreasing due times, each less than 2^31 ticks ahead, no two entries
with one destination and due time (R56). -/
def Obligations.StepsKeepScheduleOrdered : Prop :=
  ∀ s t : State, ScheduleOrdered s → step s = .next t → ScheduleOrdered t

/-- Every step keeps each fault channel's state fitting the reading of its input, so that the events R91 rules out do
not arise. -/
def Obligations.StepsKeepChannelsOnInputs : Prop :=
  ∀ s t : State, ChannelsFollowInputs s → step s = .next t → ChannelsFollowInputs t

/-! ## The interlock -/

/-- No leg has both outputs on; and an output that a step turns on either waited in GAP or SETTLING for an end that had
been reached, or stands in a leg whose dead time is over: LAST-OFF plus the side's dead time has been reached, which the
rested mark keeps said after node time has wrapped (R23; log 7, DEDUCED). -/
def Obligations.TurnOnsFollowTheDeadTime : Prop :=
  (∀ (s : State) (l : LegId), ¬(s.commanded l .upper = true ∧ s.commanded l .lower = true)) ∧
    ∀ (s t : State) (l : LegId) (sw : Switch), step s = .next t → s.commanded l sw = false →
      t.commanded l sw = true → WaitsReached l sw s ∨ DeadTimeOver l sw t
/-! ## Encodings -/

/-- The bytes of a well-formed downstream frame, judged as received bytes are, give the frame back with every field, and
so do the bytes of a well-formed RETURN frame (R193 to R195, Tables 48 to 50). -/
def Obligations.FramesReadBack : Prop :=
  (∀ f : DownFrame, f.formOk = true → hear f.wire = .down f) ∧
  (∀ f : ReturnFrame, f.formOk = true → hear f.wire = .up f)

/-- The bytes READ answers with for a record whose fields are in range are bytes that WRITE reads as that record, for
each of the four tables; their places are those of Table 53, unassigned bits 0. WRITE refuses a record's bytes exactly
when a field is out of range: MODE 3..255, LEG-ADDRESS above 250, a dead time, MIN-ON or CONFIRM-WINDOW above 1,023,
MAX-ON in 1..999 or above 16,000,000, SAFE-STATE 3; STROBE-ADDRESS above 250, PULSE-WIDTH 0; a leg outside 0..5, HOLD 0;
SYNC-TOLERANCE above 1,023, MISS-LIMIT 0 or above 15. The record it reads otherwise has the bytes given, unassigned bits
cleared (R129, R130, R195, Tables 31 to 34). -/
def Obligations.BankRecordsReadBackInRange : Prop :=
  ((∀ r : LegRecord, r.address.toNat ≤ 250 →
      (r.maxOn = 0 ∨ (1000 ≤ r.maxOn.toNat ∧ r.maxOn.toNat ≤ 16000000)) →
        decodeLegRecord (encodeLegRecord r) = some r) ∧
      (∀ r : StrobeRecord, r.address.toNat ≤ 250 → r.pulseWidth ≠ 0 →
        decodeStrobeRecord (encodeStrobeRecord r) = some r) ∧
      (∀ e : ProtEntry, e.hold ≠ 0 → decodeProtEntry (encodeProtEntry e) = some e) ∧
      ∀ r : NodeRecord, r.missLimit ≠ 0 → decodeNodeRecord (encodeNodeRecord r) = some r) ∧
  ((∀ r : LegRecord,
      encodeLegRecord r =
        [match r.mode with
          | .disabled => 0
          | .complementary => 1
          | .single => 2,
          r.address, 0#6 ++ r.deadUpper.extractLsb' 8 2, r.deadUpper.extractLsb' 0 8,
          0#6 ++ r.deadLower.extractLsb' 8 2, r.deadLower.extractLsb' 0 8, 0#6 ++ r.minOn.extractLsb' 8 2,
          r.minOn.extractLsb' 0 8, 0, r.maxOn.extractLsb' 16 8, r.maxOn.extractLsb' 8 8, r.maxOn.extractLsb' 0 8,
          0#6 ++ r.confirmWindow.extractLsb' 8 2, r.confirmWindow.extractLsb' 0 8, r.disagreeFilter,
          0#1 ++
            (match r.safeState with
              | .allOff => 0#2
              | .clampLower => 1#2
              | .clampUpper => 2#2) ++
            BitVec.ofBool (decide (r.coast = .off)) ++ BitVec.ofBool (decide (r.capture = .edges)) ++
            BitVec.ofBool (decide (r.polarity = .lowOn)) ++ BitVec.ofBool r.gapWaitsConfirm ++
            BitVec.ofBool (decide (r.overlongAction = .trip))]) ∧
      (∀ r : StrobeRecord, encodeStrobeRecord r = [r.address, r.pulseWidth, 0, 0]) ∧
      (∀ e : ProtEntry,
        encodeProtEntry e =
          [0#3 ++ BitVec.ofBool (decide (e.latch = .auto)) ++ BitVec.ofBool (decide (e.action = .haltNode)) ++
              BitVec.ofBool e.fast ++ BitVec.ofBool (decide (e.assertLevel = .high)) ++
              BitVec.ofBool (decide (e.use = .active)),
            e.qualify, 0#2 ++ e.legs.bits, 0, e.hold.extractLsb' 8 8, e.hold.extractLsb' 0 8, 0, 0]) ∧
      ∀ r : NodeRecord,
        encodeNodeRecord r =
          [0#6 ++ r.syncTolerance.extractLsb' 8 2, r.syncTolerance.extractLsb' 0 8, 0#4 ++ r.missLimit,
            0#6 ++ BitVec.ofBool (decide (r.confirmEscalation = .node)) ++ BitVec.ofBool r.captureReports,
            r.delayComp.extractLsb' 8 8, r.delayComp.extractLsb' 0 8, 0, 0]) ∧
  ((∀ b0 b1 b2 b3 b4 b5 b6 b7 b8 b9 b10 b11 b12 b13 b14 b15 : Byte,
      (decodeLegRecord [b0, b1, b2, b3, b4, b5, b6, b7, b8, b9, b10, b11, b12, b13, b14, b15] = none ↔
        2 < b0.toNat ∨ 250 < b1.toNat ∨ 4 ≤ b2.toNat ∨ 4 ≤ b4.toNat ∨ 4 ≤ b6.toNat ∨
          (1 ≤ (b8 ++ b9 ++ b10 ++ b11).toNat ∧ (b8 ++ b9 ++ b10 ++ b11).toNat ≤ 999) ∨
          16000000 < (b8 ++ b9 ++ b10 ++ b11).toNat ∨ 4 ≤ b12.toNat ∨ b15.extractLsb' 5 2 = 3#2) ∧
        ∀ r, decodeLegRecord [b0, b1, b2, b3, b4, b5, b6, b7, b8, b9, b10, b11, b12, b13, b14, b15] = some r →
          encodeLegRecord r =
            [b0, b1, b2, b3, b4, b5, b6, b7, b8, b9, b10, b11, b12, b13, b14, b15 &&& 0x7F#8]) ∧
      (∀ b0 b1 b2 b3 : Byte,
        (decodeStrobeRecord [b0, b1, b2, b3] = none ↔ 250 < b0.toNat ∨ b1 = 0) ∧
          ∀ r, decodeStrobeRecord [b0, b1, b2, b3] = some r → encodeStrobeRecord r = [b0, b1, 0, 0]) ∧
      (∀ b0 b1 b2 b3 b4 b5 b6 b7 : Byte,
        (decodeProtEntry [b0, b1, b2, b3, b4, b5, b6, b7] = none ↔ 64 ≤ b2.toNat ∨ (b4 = 0 ∧ b5 = 0)) ∧
          ∀ e, decodeProtEntry [b0, b1, b2, b3, b4, b5, b6, b7] = some e →
            encodeProtEntry e = [b0 &&& 0x1F#8, b1, b2, 0, b4, b5, 0, 0]) ∧
      ∀ b0 b1 b2 b3 b4 b5 b6 b7 : Byte,
        (decodeNodeRecord [b0, b1, b2, b3, b4, b5, b6, b7] = none ↔ 4 ≤ b0.toNat ∨ b2 = 0 ∨ 15 < b2.toNat) ∧
          ∀ r, decodeNodeRecord [b0, b1, b2, b3, b4, b5, b6, b7] = some r →
            encodeNodeRecord r = [b0, b1, b2, b3 &&& 3#8, b4, b5, 0, 0])
/-! ## Records and the report queue -/

/-- A record takes the next SEQ and is offered. Below 48 records it is appended whatever its class, and PLACED and HELD
of its class increase by 1. At 48 records a class E or C record, a class M record that finds neither C nor E, and a
class F record that finds only F are dropped, PLACED and DROPPED increase by 1, and a dropped F record sets
FAULT-OVERFLOW; any other class F or M record evicts the newest record of the lowest class below its own, which is
counted DROPPED and no longer HELD, and is appended. Only the RPU and the EDGE counts change (R145, R147 to R152,
R154). -/
def Obligations.OffersAppendEvictOrDrop : Prop :=
  (∀ (b : RecBody) (s : State),
      SameButReports s (report b s) ∧ (report b s).fbm.counters = s.fbm.counters ∧
        (report b s).rpu.nextSeq = s.rpu.nextSeq + 1 ∧
        (report b s).rpu.overFull = s.rpu.overFull ∧
        (s.rpu.queue.length < 48 →
          (report b s).rpu.queue = s.rpu.queue ++ [{ seq := s.rpu.nextSeq, body := b }] ∧
            (report b s).rpu.faultOverflow = s.rpu.faultOverflow ∧
            (report b s).rpu.accounting =
              s.rpu.accounting.set b.cls
                { s.rpu.accounting.get b.cls with
                  placed := (s.rpu.accounting.get b.cls).placed + 1
                  held := (s.rpu.accounting.get b.cls).held + 1 } ∧
            ∀ l, (report b s).fbm.edgeCounts.get l =
              s.fbm.edgeCounts.get l + if b.edgeLeg = some l then 1 else 0) ∧
        (48 ≤ s.rpu.queue.length → (∀ r ∈ s.rpu.queue, r.cls.rank ≤ b.cls.rank ∨ (b.cls = .e ∧ r.cls = .c)) →
          (report b s).rpu.queue = s.rpu.queue ∧
            (report b s).rpu.faultOverflow = (s.rpu.faultOverflow || decide (b.cls = .f)) ∧
            (report b s).rpu.accounting =
              s.rpu.accounting.set b.cls
                { s.rpu.accounting.get b.cls with
                  placed := (s.rpu.accounting.get b.cls).placed + 1
                  dropped := (s.rpu.accounting.get b.cls).dropped + 1 } ∧
            (report b s).fbm.edgeCounts = s.fbm.edgeCounts)) ∧
  (∀ (b : RecBody) (s : State) (before after : List Record) (v : Record),
      48 ≤ s.rpu.queue.length → s.rpu.queue = before ++ v :: after → (b.cls = .f ∨ b.cls = .m) →
        b.cls.rank < v.cls.rank → (∀ r ∈ s.rpu.queue, r.cls.rank ≤ v.cls.rank) → (∀ r ∈ after, r.cls ≠ v.cls) →
          (report b s).rpu.queue = before ++ after ++ [{ seq := s.rpu.nextSeq, body := b }] ∧
            (report b s).rpu.faultOverflow = s.rpu.faultOverflow ∧
            ((report b s).rpu.accounting.get v.cls).dropped = (s.rpu.accounting.get v.cls).dropped + 1 ∧
            ((report b s).rpu.accounting.get v.cls).held = (s.rpu.accounting.get v.cls).held - 1 ∧
            ((report b s).rpu.accounting.get b.cls).placed = (s.rpu.accounting.get b.cls).placed + 1 ∧
            ((report b s).rpu.accounting.get b.cls).held = (s.rpu.accounting.get b.cls).held + 1 ∧
            (∀ k, k ≠ v.cls → k ≠ b.cls → (report b s).rpu.accounting.get k = s.rpu.accounting.get k) ∧
            ∀ l, (report b s).fbm.edgeCounts.get l =
              s.fbm.edgeCounts.get l - if v.body.edgeLeg = some l then 1 else 0)

/-- The head of the queue in removal order is the oldest record of the highest class present; taking it leaves every
other record where it was, and only an empty queue has no head. -/
def Obligations.RemovalTakesTheOldestOfTheHighestClass : Prop :=
  ∀ q : List Record,
    (removalHead q = none ↔ q = []) ∧
      ∀ r rest, removalHead q = some (r, rest) ↔
        ∃ before after, q = before ++ r :: after ∧ rest = before ++ after ∧ (∀ x ∈ before, x.cls ≠ r.cls) ∧
          ∀ x ∈ q, r.cls.rank ≤ x.cls.rank

/-- A merge at address a into a frame with room for the stub: ORIGIN and BREAK pass unchanged; the payload gains the
stub, which shows the queue depth left, and then the heads in removal order, up to the first head that would leave fewer
than a - 1 units free; the node keeps all but its reports (R155, R157). The stub's bits are those of Table 51: 1,
ADDRESS, STATE, FAULT-OVERFLOW, SAFE-LEGS, COMMIT-PENDING, DEPTH. A record's units are those of Table 51: its KIND,
which is of the class R194 gives the code, its flags, LENGTH, SEQ, byte 3 and its further units, each value by its code
of Table 52 and every unassigned bit 0 (R146, R194, R195); Table 52 has no code for a HALT record's source UNADDRESSED,
which R114 never lets arise, and its 0 is the model's own (log 21, DESIGN CHOICE). -/
def Obligations.MergesFillFramesToTheReserve : Prop :=
  (∀ (a : Byte) (f : ReturnFrame) (s : State), 1 ≤ a.toNat → a.toNat ≤ 16 → f.payload.length ≤ 64 - a.toNat →
    ∃ g t sent, mergeFrame a f s = (g, t) ∧ g.origin = f.origin ∧ g.brk = f.brk ∧
      RemovalRun s.rpu.queue sent t.rpu.queue ∧
      g.payload =
        f.payload ++
          encodeStub a s.ncu.state s.safeLegs t.rpu.queue.length s.rpu.faultOverflow s.bks.pending.isSome ::
            sent.flatMap encodeRecord ∧
      g.payload.length ≤ 64 - (a.toNat - 1) ∧
      (∀ r rest, removalHead t.rpu.queue = some (r, rest) →
        64 - (a.toNat - 1) < g.payload.length + r.body.length) ∧
      SameButReports s t ∧ t.fbm.counters = s.fbm.counters ∧
      (∀ k, (t.rpu.accounting.get k).sent =
        (s.rpu.accounting.get k).sent + BitVec.ofNat 32 (countClass k sent)) ∧
      ∀ l, t.fbm.edgeCounts.get l = s.fbm.edgeCounts.get l - countEdges l sent) ∧
  (∀ (a : Byte) (n : NodeState) (v : LegSet) (depth : Nat) (overflow pending : Bool) (q : Quad), a.toNat ≤ 16 →
    q = encodeStub a n v depth overflow pending →
      q.extractLsb' 24 8 = 1#8 ∧ (q.extractLsb' 16 5).toNat = a.toNat ∧
        (n = .standby → q.extractLsb' 21 2 = 0#2) ∧ (n = .syncing → q.extractLsb' 21 2 = 1#2) ∧
        (n = .running → q.extractLsb' 21 2 = 2#2) ∧ (n = .halted → q.extractLsb' 21 2 = 3#2) ∧
        q.getLsbD 23 = overflow ∧ (∀ l, q.getLsbD (8 + legIndex l) = v.get l) ∧ q.getLsbD 14 = pending ∧
        q.getLsbD 15 = false ∧ q.extractLsb' 0 8 = BitVec.ofNat 8 depth) ∧
  (∀ r : Record,
    ∃ (q : Quad) (rest : List Quad), encodeRecord r = q :: rest ∧ rest.length + 1 = r.body.length ∧
      q.extractLsb' 16 3 = BitVec.ofNat 3 r.body.length ∧ q.extractLsb' 8 8 = r.seq ∧
      (r.cls = .f ↔ 17 ≤ (q.extractLsb' 24 8).toNat ∧ (q.extractLsb' 24 8).toNat ≤ 20) ∧
      (r.cls = .m ↔ 128 ≤ (q.extractLsb' 24 8).toNat) ∧
      (r.cls = .e ↔ 33 ≤ (q.extractLsb' 24 8).toNat ∧ (q.extractLsb' 24 8).toNat ≤ 39) ∧
      (r.cls = .c ↔ q.extractLsb' 24 8 = 49#8) ∧
      (q.extractLsb' 24 8, q.extractLsb' 19 5, q.extractLsb' 0 8, rest) =
        match r.body with
        | .trip n action basis legs time =>
          (17#8, 0#3 ++ BitVec.ofBool (decide (basis = .entryChanged)) ++ BitVec.ofBool (decide (action = .haltNode)),
            BitVec.ofNat 2 (chanIndex n) ++ legs.bits, [time])
        | .halt cause causes source time =>
          (18#8,
            (match source with
              | .syncing => 1#2
              | .running => 2#2
              | .halted => 3#2
              | _ => 0#2) ++
              (match cause with
                | .linkLoss => 0#3
                | .topology => 1#3
                | .confirm => 2#3
                | .fault n => BitVec.ofNat 3 (3 + chanIndex n)),
            0#1 ++ causes.bits, [time])
        | .confirmFail l sw source expected suppressed time =>
          (19#8, 0#5,
            0#1 ++ BitVec.ofBool suppressed ++ BitVec.ofBool expected ++ BitVec.ofBool (decide (source = .disagree)) ++
              BitVec.ofBool (decide (sw = .lower)) ++ BitVec.ofNat 3 (legIndex l), [time])
        | .overlong l sw action time =>
          (20#8, 0#5,
            0#3 ++ BitVec.ofBool (decide (action = .trip)) ++ BitVec.ofBool (decide (sw = .lower)) ++
              BitVec.ofNat 3 (legIndex l), [time])
        | .response manageSeq code status data =>
          (8#4 ++ code,
            0#1 ++
              (match status with
                | .done => 0#4
                | .accepted => 1#4
                | .badTarget => 2#4
                | .badValue => 3#4
                | .wrongState => 4#4
                | .locked => 5#4
                | .causePresent => 6#4
                | .invalid => 7#4
                | .unknown => 8#4), manageSeq, data)
        | .reject cycle index reason address =>
          (33#8,
            0#2 ++
              (match reason with
                | .kindMismatch => 0#3
                | .badTarget => 1#3
                | .badOffset => 2#3
                | .badWidth => 3#3
                | .scheduleFull => 4#3), index, [cycle ++ address ++ 0#8])
        | .discard reason count tails firstCycle =>
          (34#8,
            0#2 ++
              (match reason with
                | .flush => 0#3
                | .coast => 1#3
                | .swap => 2#3
                | .disarm => 3#3
                | .halt => 4#3), count, [tails ++ firstCycle ++ 0#8])
        | .sync kind cycle coasted =>
          (35#8, 0#4 ++ BitVec.ofBool (decide (kind = .resumed)), coasted, [cycle ++ 0#16])
        | .glitch n reason forced time =>
          (36#8, 0#4 ++ BitVec.ofBool (decide (reason = .entryChanged)), BitVec.ofNat 2 (chanIndex n) ++ forced.bits,
            [time])
        | .release n basis legs time =>
          (37#8, 0#4 ++ BitVec.ofBool (decide (basis = .entryChanged)), BitVec.ofNat 2 (chanIndex n) ++ legs.bits,
            [time])
        | .commitDone form active cycle =>
          (38#8, 0#3 ++ BitVec.ofBool (decide (active = .b)) ++ BitVec.ofBool (decide (form = .targeted)), 0#8,
            [cycle ++ 0#16])
        | .cancelled reason target cycle =>
          (39#8,
            0#3 ++
              (match reason with
                | .disarm => 0#2
                | .halt => 1#2
                | .restart => 2#2), 0#8, [target ++ cycle])
        | .edge l sw direction time delay =>
          (49#8, 0#5,
            0#3 ++ BitVec.ofBool direction ++ BitVec.ofBool (decide (sw = .lower)) ++ BitVec.ofNat 3 (legIndex l),
            [time, delay ++ 0#16])) ∧
  (∀ (v : LegSet) (l : LegId), v.bits.getLsbD (legIndex l) = v.get l) ∧
  ∀ h : HaltSet, h.bits.getLsbD 0 = h.linkLoss ∧ h.bits.getLsbD 1 = h.topology ∧ h.bits.getLsbD 2 = h.confirm ∧
    ∀ n, h.bits.getLsbD (3 + chanIndex n) = h.fault.get n
/-! ## The Leg Engine's operations -/

/-- A request is refused on a leg in HELD-OFF or SAFE, on a DISABLED leg, and for LOWER on a SINGLE leg: "requests
refused" increases by 1, and nothing else changes. On any other leg no request is refused. -/
def Obligations.RequestsRefused : Prop :=
  ∀ (l : LegId) (t : Target) (s : State),
    (((∃ h, (s.leg l).cond = .heldOff h) ∨ (∃ cs p k, (s.leg l).cond = .safe cs p k) ∨
        (s.legParams l).mode = .disabled ∨ ((s.legParams l).mode = .single ∧ t = .lower)) →
      requestLeg l t s = s.countLegs fun k => { k with refused := satInc k.refused }) ∧
      ((∀ h, (s.leg l).cond ≠ .heldOff h) → (∀ cs p k, (s.leg l).cond ≠ .safe cs p k) →
        (s.legParams l).mode ≠ .disabled → ¬((s.legParams l).mode = .single ∧ t = .lower) →
          (requestLeg l t s).lge.counters.refused = s.lge.counters.refused)

/-- A request for a switch on a leg in OFF or GAP that its mode admits: with the dead time over (LAST-OFF plus the
side's dead time reached, or the leg rested: log 7, DEDUCED) and the confirm condition met the switch turns on now, with
ON-SINCE, MIN-ON-END and MAX-ON-END as R24 gives; otherwise the leg is in GAP with that switch PENDING and GAP-END
LAST-OFF plus the side's dead time. LAST-OFF and all else stay (R28, R31), but "watches replaced" counts an open watch
that the turn-on replaces (R75). A request for OFF leaves OFF as it is and ends a gap in OFF. -/
def Obligations.RequestsFromOffAndGap : Prop :=
  ∀ (l : LegId) (s : State), (s.legParams l).mode ≠ .disabled →
    ((s.leg l).cond = .off ∨ ∃ p e r, (s.leg l).cond = .gap p e r) →
      requestLeg l .off s = s.setLeg l { s.leg l with cond := .off } ∧
        ∀ sw t, ((s.legParams l).mode = .single → sw = .upper) → targetSwitch t = some sw →
          LegFrame l s (requestLeg l t s) ∧ MonitorsFollow l s (requestLeg l t s) ∧
            WatchesReplaced l s (requestLeg l t s) ∧ (requestLeg l t s).lge.counters = s.lge.counters ∧
            (DeadTimeOver l sw s → ConfirmMet l sw s →
              (requestLeg l t s).leg l =
                { s.leg l with
                  cond :=
                    .on sw s.now (if (s.legParams l).minOn = 0 then none else some (s.now + (s.legParams l).minOn.setWidth 32))
                      (if (s.legParams l).maxOn = 0 then none else some (s.now + (s.legParams l).maxOn.setWidth 32)) none }) ∧
            (¬(DeadTimeOver l sw s ∧ ConfirmMet l sw s) →
              ∃ r, (r = true ↔ DeadTimeOver l sw s) ∧
                (requestLeg l t s).leg l =
                  { s.leg l with cond := .gap sw ((s.leg l).lastOff + deadOf (s.legParams l) sw) r })

/-- A request on a conducting leg. Before MIN-ON-END it is deferred: another target is stored, the conducting side's
removes what is stored, and a replacement or removal counts. After it, the conducting side changes nothing, OFF turns
the switch off with LAST-OFF now, and the other side turns it off with LAST-OFF now and leaves the leg in GAP toward
that side, GAP-END now plus its dead time; with dead time 0 and no GAP-WAITS-CONFIRM the other side is on at once (R29,
R30). "Watches replaced" increases by 1 for each switch whose output changes while its watch is open, CONFIRM-WINDOW not
being 0 (R75). -/
def Obligations.RequestsOnConductingLegs : Prop :=
  ∀ (l : LegId) (side : Switch) (since : Time) (maxEnd : Option Time) (deferred : Option Target) (t : Target) (s : State),
    ((s.legParams l).mode = .complementary ∨ ((s.legParams l).mode = .single ∧ t ≠ .lower)) →
      (∀ e, (s.leg l).cond = .on side since (some e) maxEnd deferred →
        requestLeg l t s =
          (if deferred = none then s
            else s.countLegs fun k => { k with deferredReplaced := satInc k.deferredReplaced }).setLeg l
            { s.leg l with
              cond := .on side since (some e) maxEnd (if targetSwitch t = some side then none else some t) }) ∧
        ((s.leg l).cond = .on side since none maxEnd deferred →
          (targetSwitch t = some side → requestLeg l t s = s) ∧
            (t = .off →
              LegFrame l s (requestLeg l t s) ∧ MonitorsFollow l s (requestLeg l t s) ∧
                WatchesReplaced l s (requestLeg l t s) ∧ (requestLeg l t s).lge.counters = s.lge.counters ∧
                (requestLeg l t s).leg l = { cond := .off, lastOff := s.now, rested := false }) ∧
            (∀ sw, targetSwitch t = some sw → sw ≠ side →
              LegFrame l s (requestLeg l t s) ∧ WatchesReplaced l s (requestLeg l t s) ∧
                (requestLeg l t s).lge.counters = s.lge.counters ∧ ((requestLeg l t s).leg l).lastOff = s.now ∧
                (deadOf (s.legParams l) sw ≠ 0 →
                  (requestLeg l t s).leg l =
                    { cond := .gap sw (s.now + deadOf (s.legParams l) sw) false, lastOff := s.now, rested := false } ∧
                    MonitorsFollow l s (requestLeg l t s)) ∧
                (deadOf (s.legParams l) sw = 0 → (s.legParams l).gapWaitsConfirm = false →
                  ((requestLeg l t s).leg l).cond = onCond (s.legParams l) sw s.now)))

/-- A force order from channel n on an enabled leg: a leg not in SAFE enters HELD-OFF with n added to HELD-BY and
LAST-OFF now, its switch off and its gap and timers gone, an open watch of that switch counted in "watches replaced"
(R75; log 23, DEDUCED); a leg in SAFE, and a DISABLED leg, are left unchanged (R37, R40). -/
def Obligations.ForceHoldsTheLegOff : Prop :=
  ∀ (n : ChanId) (l : LegId) (s : State),
    ((s.legEnabled l = false ∨ (s.leg l).cond.isSafe = true) → forceLeg n l s = s) ∧
      (s.legEnabled l = true → (s.leg l).cond.isSafe = false →
        LegFrame l s (forceLeg n l s) ∧ MonitorsFollow l s (forceLeg n l s) ∧
          WatchesReplaced l s (forceLeg n l s) ∧ (forceLeg n l s).lge.counters = s.lge.counters ∧
          ∃ held, (forceLeg n l s).leg l = { cond := .heldOff held, lastOff := s.now, rested := false } ∧
            ∀ k, held.get k = (decide (k = n) ||
              match (s.leg l).cond with
              | .heldOff h => h.get k
              | _ => false))

/-- A withdraw order from channel n: on a leg in HELD-OFF with n in HELD-BY, n is removed, the leg enters OFF when no
channel is left and stays in HELD-OFF otherwise, and LAST-OFF keeps its value; any other leg is unchanged. -/
def Obligations.WithdrawReleasesTheLeg : Prop :=
  ∀ (n : ChanId) (l : LegId) (s : State),
    (∀ h, (s.leg l).cond = .heldOff h → h.get n = true →
      ((∀ k, k ≠ n → h.get k = false) → withdrawLeg n l s = s.setLeg l { s.leg l with cond := .off }) ∧
        ((∃ k, k ≠ n ∧ h.get k = true) →
          withdrawLeg n l s = s.setLeg l { s.leg l with cond := .heldOff (h.set n false) })) ∧
      ((∀ h, (s.leg l).cond = .heldOff h → h.get n = false) → withdrawLeg n l s = s)

/-- A cause added to an enabled leg. A leg in SAFE takes it into CAUSES, once, and a suppressing cause brings the phase
to OPEN. Any other leg enters SAFE holding that cause alone: with no clamp switch, or the clamp suppressed by the cause
or by STANDBY or UNADDRESSED, the phase is OPEN and a conducting switch is off; a conducting clamp switch stays on in
phase CLAMPED; otherwise the leg settles toward the clamp switch with SETTLE-END LAST-OFF plus its dead time, or is
CLAMPED at once where that has been reached (or the leg is rested: log 7, DEDUCED) and confirmed (R42 to R44). A leg
whose clamp is suppressed keeps its CLAMP value (log 14, DEDUCED). A switch that changes while its watch is open counts
in "watches replaced" (R75; log 23, DEDUCED). A DISABLED leg is left unchanged (R37). -/
def Obligations.CausesTakeTheLegToSafe : Prop :=
  ∀ (l : LegId) (x : LegCause) (suppress : Bool) (s : State),
    (s.legEnabled l = false → addCause l x suppress s = s) ∧
      (s.legEnabled l = true →
        LegFrame l s (addCause l x suppress s) ∧ WatchesReplaced l s (addCause l x suppress s) ∧
          (addCause l x suppress s).lge.counters = s.lge.counters ∧
          (∀ cs p k, (s.leg l).cond = .safe cs p k →
            (suppress = false → addCause l x suppress s = s.setLeg l { s.leg l with cond := .safe (cs.add x) p k }) ∧
              (suppress = true → ((addCause l x suppress s).leg l).cond = .safe (cs.add x) .opened k)) ∧
          ((s.leg l).cond.isSafe = false →
            ∃ p, ((addCause l x suppress s).leg l).cond =
                .safe (Causes.empty.add x) p (clampSwitch (s.legParams l).safeState) ∧
              ((suppress = true ∨ s.ncu.state = .standby ∨ s.ncu.state = .unaddressed ∨
                  (s.legParams l).safeState = .allOff) → p = .opened) ∧
              (suppress = false → s.ncu.state ≠ .standby → s.ncu.state ≠ .unaddressed →
                ∀ sw, clampSwitch (s.legParams l).safeState = some sw →
                  ((∃ a m d f, (s.leg l).cond = .on sw a m d f) →
                    p = .clamped ∧ ((addCause l x suppress s).leg l).lastOff = (s.leg l).lastOff) ∧
                    ((∀ a m d f, (s.leg l).cond ≠ .on (otherSwitch sw) a m d f) →
                      (∀ a m d f, (s.leg l).cond ≠ .on sw a m d f) →
                        ((addCause l x suppress s).leg l).lastOff = (s.leg l).lastOff ∧
                          (¬DeadTimeOver l sw s →
                            p = .settling ((s.leg l).lastOff + deadOf (s.legParams l) sw) false) ∧
                          (DeadTimeOver l sw s → ConfirmMet l sw s → p = .clamped)) ∧
                    ((∃ a m d f, (s.leg l).cond = .on (otherSwitch sw) a m d f) →
                      ((addCause l x suppress s).leg l).lastOff = s.now ∧
                        (deadOf (s.legParams l) sw ≠ 0 →
                          p = .settling (s.now + deadOf (s.legParams l) sw) false)))))

/-- A halt order from SYNCING or RUNNING: the node is HALTED with the one cause, the lock stage is NONE, the schedule is
empty, both strobes are low and no commit is pending; the records are HALT, then DISCARD with REASON HALT if the
schedule held entries, then CANCELLED with REASON HALT if a commit was pending, and nothing more; every enabled leg is
in SAFE holding NODE-HALT, and a leg already in SAFE keeps its phase; the channels, the ports and the banks' contents
are unchanged. From STANDBY, its monitors IDLE and no DISAGREE-FILTER 0, the same, and each monitored switch is QUIET,
or FILTERING when its input disagrees. In HALTED: the cause joins the set, a HALT record is created, and each enabled
leg that lacks NODE-HALT gets it. In UNADDRESSED none is taken (R114, R119 to R121). -/
def Obligations.HaltOrdersHaltTheNode : Prop :=
  ∀ (x : HaltCause) (s : State),
    (s.ncu.state = .unaddressed → haltOrder x s = s) ∧
      (s.ncu.state ≠ .unaddressed →
        (haltOrder x s).ncu.state = .halted ∧ SameOutside s (haltOrder x s) ∧
          (haltOrder x s).pru = s.pru ∧ (haltOrder x s).bks.active = s.bks.active) ∧
      (Operating s ∨
          (s.ncu.state = .standby ∧ s.fbm.monitors = monitorsIdle ∧ ∀ l, (s.legParams l).disagreeFilter ≠ 0) →
        (haltOrder x s).ncu.causes = HaltSet.empty.add x ∧ (haltOrder x s).ctu = { s.ctu with lock := .none } ∧
          (haltOrder x s).esu.schedule = [] ∧ (∀ k, (haltOrder x s).esu.pulses.get k = none) ∧
          (haltOrder x s).bks.pending = none ∧
          (∀ d, d = discardEntries (fun _ => false) .halt
                (report (.halt x (HaltSet.empty.add x) s.ncu.state s.now) s) →
            (haltOrder x s).esu.counters = d.esu.counters ∧
              (s.bks.pending = none →
                (haltOrder x s).rpu = d.rpu ∧ (haltOrder x s).fbm.edgeCounts = d.fbm.edgeCounts) ∧
              ∀ g, s.bks.pending = some g →
                (haltOrder x s).rpu = (report (.cancelled .halt g s.ctu.cycle) d).rpu ∧
                  (haltOrder x s).fbm.edgeCounts = (report (.cancelled .halt g s.ctu.cycle) d).fbm.edgeCounts) ∧
          ∀ l, (s.legEnabled l = false → (haltOrder x s).leg l = s.leg l) ∧
            (s.legEnabled l = true →
              ((haltOrder x s).leg l).cond.isSafe = true ∧
                ((haltOrder x s).leg l).cond.causes = (s.leg l).cond.causes.add .nodeHalt ∧
                ∀ cs p k, (s.leg l).cond = .safe cs p k →
                  ((haltOrder x s).leg l).cond = .safe (cs.add .nodeHalt) p k)) ∧
      (s.ncu.state = .standby → s.fbm.monitors = monitorsIdle → (∀ l, (s.legParams l).disagreeFilter ≠ 0) →
        ∀ l sw,
          (¬(MonitoredSide (s.legParams l).mode sw ∧ (s.legParams l).confirmWindow ≠ 0) →
            (haltOrder x s).monitor l sw = .idle) ∧
            (MonitoredSide (s.legParams l).mode sw ∧ (s.legParams l).confirmWindow ≠ 0 →
              (haltOrder x s).monitor l sw =
                if s.feedbackOn l sw = (haltOrder x s).commanded l sw then .quiet
                else .filtering (s.now + (s.legParams l).disagreeFilter.setWidth 32))) ∧
      (s.ncu.state = .halted →
        (haltOrder x s).ncu.causes = s.ncu.causes.add x ∧
          (haltOrder x s).rpu = (report (.halt x (s.ncu.causes.add x) .halted s.now) s).rpu ∧
          (haltOrder x s).ctu = s.ctu ∧ (haltOrder x s).esu = s.esu ∧ (haltOrder x s).bks = s.bks ∧
          ∀ l, (s.legEnabled l = true → (s.leg l).cond.causes.has .nodeHalt = false →
              ((haltOrder x s).leg l).cond.causes = (s.leg l).cond.causes.add .nodeHalt) ∧
            ((s.legEnabled l = false ∨ (s.leg l).cond.causes.has .nodeHalt = true) →
              (haltOrder x s).leg l = s.leg l))

/-! ## The chain ports -/

/-- An accepted frame goes on: with a D partner it enters the downstream buffer, an ENUM with HOP + 1 (255 stays), any
other frame unchanged, or is dropped and counted when the buffer holds 2; without one the node originates one RETURN
frame with its address, or 0, as ORIGIN, BREAK 0 and no payload. A RETURN frame that is to go up: without a U partner it
is dropped and counted in "upstream discards"; with 2 frames in the upstream buffer it is dropped and counted in
"upstream overflow"; otherwise it enters, merged into by an addressed node, unchanged at an unaddressed one. A dropped
frame takes nothing from the queue (R156, R165, R168, R169, R171, R173). -/
def Obligations.FramesEnterTheForwardBuffers : Prop :=
  ((∀ (f g : DownFrame) (s : State), s.ciu.dPartner = true →
        (match f with
          | .enum h => g = .enum (if h = 255 then 255 else h + 1)
          | .cycle _ => g = f
          | .manage _ _ => g = f) →
          (s.ciu.down.length < 2 → passOn f s = s.setCiu { s.ciu with down := s.ciu.down ++ [g], dTx := true }) ∧
            (2 ≤ s.ciu.down.length →
              passOn f s = s.countLink fun k => { k with downstreamOverflow := satInc k.downstreamOverflow })) ∧
      ∀ (f : DownFrame) (s : State), s.ciu.dPartner = false →
        passOn f s =
          moveUp { origin := s.ciu.address.getD 0, brk := 0, payload := [] }
            (s.countLink fun k => { k with returnsOriginated := satInc k.returnsOriginated })) ∧
  (∀ (f : ReturnFrame) (s : State),
      (s.ciu.uPartner = false →
        moveUp f s = s.countLink fun k => { k with upstreamDiscards := satInc k.upstreamDiscards }) ∧
        (s.ciu.uPartner = true → 2 ≤ s.ciu.up.length →
          moveUp f s = s.countLink fun k => { k with upstreamOverflow := satInc k.upstreamOverflow }) ∧
        (s.ciu.uPartner = true → s.ciu.up.length < 2 →
          (s.ciu.address = none → moveUp f s = s.setCiu { s.ciu with up := s.ciu.up ++ [f], uTx := true }) ∧
            ∀ a g t, s.ciu.address = some a → mergeFrame a f s = (g, t) →
              moveUp f s = t.setCiu { s.ciu with up := s.ciu.up ++ [g], uTx := true }))

/-- ENUM. In UNADDRESSED and STANDBY the address becomes HOP + 1 with node state STANDBY for HOP 0..15, and none with
node state UNADDRESSED above; entry into STANDBY from UNADDRESSED brings every SAFE leg to phase OPEN with its causes.
In SYNCING, RUNNING and HALTED the address is kept, and a HOP + 1 that differs from it is counted and orders a TOPOLOGY
halt. The frame is then passed on (R113, R171). -/
def Obligations.EnumAddressesOrChecksTheNode : Prop :=
  ∀ (h : Byte) (s : State), EndsAtU s →
    ((s.ncu.state = .unaddressed ∨ s.ncu.state = .standby) →
      ∃ u, exec (.enum h) s = .next (passOn (.enum h) u) ∧
        u.ciu = { s.ciu with uRx := false, address := if h.toNat ≤ 15 then some (h + 1) else none } ∧
        u.ncu = { s.ncu with state := if h.toNat ≤ 15 then .standby else .unaddressed } ∧
        SameButLegs (s.setNcu u.ncu |>.setCiu u.ciu) u ∧ u.lge.counters = s.lge.counters ∧
        ((s.ncu.state = .standby ∨ 15 < h.toNat) → u.lge = s.lge ∧ u.fbm = s.fbm) ∧
        (s.ncu.state = .unaddressed → h.toNat ≤ 15 →
          ∀ l, (∀ cs p k, (s.leg l).cond = .safe cs p k → (u.leg l).cond = .safe cs .opened k) ∧
            ((s.leg l).cond.isSafe = false → u.leg l = s.leg l))) ∧
      ((Operating s ∨ s.ncu.state = .halted) →
        (∀ a, s.ciu.address = some a → h.toNat + 1 = a.toNat →
          exec (.enum h) s = .next (passOn (.enum h) (s.setCiu { s.ciu with uRx := false }))) ∧
          ((∀ a, s.ciu.address = some a → h.toNat + 1 ≠ a.toNat) →
            exec (.enum h) s =
              .next (passOn (.enum h) (haltOrder .topology
                (s.setCiu { s.ciu with
                  uRx := false
                  counters := { s.ciu.counters with enumMismatches := satInc s.ciu.counters.enumMismatches } })))))

/-- The link events: a transmission's end takes the head frame out of its buffer and begins the next; a partner loss on
D or U empties that port's buffer, counts the frames discarded and the loss, and abandons reception and transmission; a
partner gained is present; a reception begins at a port whose partner is present (R163 to R165, R168, R173). A frame
received at U with a bad check or malformed is counted in "U check errors", a good RETURN frame there in "wrong-port
frames" (R166). Nothing else changes in any of these. -/
def Obligations.LinkEventsAndDiscardsChangeTheirPort : Prop :=
  (∀ s : State,
      (s.ciu.dTx = true →
        exec .dTransmitEnd s =
          .next (s.setCiu { s.ciu with down := s.ciu.down.tail, dTx := decide (2 ≤ s.ciu.down.length) })) ∧
        (s.ciu.uTx = true →
          exec .uTransmitEnd s =
            .next (s.setCiu { s.ciu with up := s.ciu.up.tail, uTx := decide (2 ≤ s.ciu.up.length) })) ∧
        (s.ciu.dPartner = true →
          exec .dPartnerLost s =
            .next (s.setCiu { s.ciu with
              dPartner := false, down := [], dTx := false, dRx := false
              counters := { s.ciu.counters with
                downstreamDiscards := satAdd s.ciu.counters.downstreamDiscards s.ciu.down.length
                dPartnerLosses := satInc s.ciu.counters.dPartnerLosses } })) ∧
        (s.ciu.uPartner = true →
          exec .uPartnerLost s =
            .next (s.setCiu { s.ciu with
              uPartner := false, up := [], uTx := false, uRx := false
              counters := { s.ciu.counters with
                upstreamDiscards := satAdd s.ciu.counters.upstreamDiscards s.ciu.up.length
                uPartnerLosses := satInc s.ciu.counters.uPartnerLosses } })) ∧
        (s.ciu.dPartner = false → exec .dPartnerGained s = .next (s.setCiu { s.ciu with dPartner := true })) ∧
        (s.ciu.uPartner = false → exec .uPartnerGained s = .next (s.setCiu { s.ciu with uPartner := true })) ∧
        (s.ciu.uPartner = true →
          exec (.frameReceptionBegins .u) s = .next (s.setCiu { s.ciu with uRx := true })) ∧
        (s.ciu.dPartner = true →
          exec (.frameReceptionBegins .d) s = .next (s.setCiu { s.ciu with dRx := true }))) ∧
  (∀ (bytes : List Byte) (s : State), EndsAtU s →
      (hear bytes = .bad →
        exec (.uFrameDiscarded bytes) s =
          .next (s.setCiu { s.ciu with
            uRx := false
            counters := { s.ciu.counters with uCheckErrors := satInc s.ciu.counters.uCheckErrors } })) ∧
        ∀ f, hear bytes = .up f →
          exec (.uFrameDiscarded bytes) s =
            .next (s.setCiu { s.ciu with
              uRx := false
              counters := { s.ciu.counters with wrongPort := satInc s.ciu.counters.wrongPort } }))

/-- A frame received at D: a RETURN frame moves up, merged into by an addressed node unless its payload exceeds 64 - a
units, when it is counted over-full and replaced (counted also where the replacement is then dropped: log 13, DEDUCED);
a bad or malformed frame is counted and replaced; a replacement has the node's address, or 0, as ORIGIN and BREAK, and
no payload; a downstream frame is counted in "wrong-port frames" (R158, R159, R172). -/
def Obligations.ReturnFramesAreMovedUpOrReplaced : Prop :=
  ∀ (bytes : List Byte) (s v : State), s.ciu.dPartner = true → s.ciu.dRx = true →
    v = s.setCiu { s.ciu with dRx := false } →
      (∀ f, hear bytes = .up f →
        (s.ciu.address = none → exec (.returnFrameReceived bytes) s = .next (moveUp f v)) ∧
          ∀ a, s.ciu.address = some a →
            (f.payload.length ≤ 64 - a.toNat → exec (.returnFrameReceived bytes) s = .next (moveUp f v)) ∧
              (64 - a.toNat < f.payload.length →
                exec (.returnFrameReceived bytes) s =
                  .next (moveUp { origin := a, brk := a, payload := [] }
                    (v.setRpu { s.rpu with overFull := satInc s.rpu.overFull })))) ∧
        (hear bytes = .bad →
          exec (.returnFrameReceived bytes) s =
            .next (moveUp { origin := s.ciu.address.getD 0, brk := s.ciu.address.getD 0, payload := [] }
              (v.countLink fun k => { k with dCheckErrors := satInc k.dCheckErrors }))) ∧
        ∀ f, hear bytes = .down f →
          exec (.returnFrameReceived bytes) s =
            .next (v.countLink fun k => { k with wrongPort := satInc k.wrongPort })

/-! ## CYCLE frames and marks -/

/-- A CYCLE frame that is not used: in UNADDRESSED, STANDBY and HALTED it is counted in "frames ignored"; in SYNCING and
RUNNING one with a PERIOD below 2,000 is counted in "period errors" (R3, R4). In RUNNING, inside the window and behind
the expected number it is stale; after the window, or before it with a number equal to or behind the current one, it is
late; before it with a number ahead it is early (R10, R12). It is counted, nothing else changes, and the frame is passed
on. -/
def Obligations.UnusedAndDroppedCycleFramesAreCounted : Prop :=
  (∀ (f : CycleFrame) (s v : State), EndsAtU s → f.entries.length ≤ 64 → v = s.setCiu { s.ciu with uRx := false } →
      ((s.ncu.state = .unaddressed ∨ s.ncu.state = .standby ∨ s.ncu.state = .halted) →
        exec (.cycle f) s =
          .next (passOn (.cycle f) (v.countTiming fun k => { k with framesIgnored := satInc k.framesIgnored }))) ∧
        (Operating s → f.period.toNat < 2000 →
          exec (.cycle f) s =
            .next (passOn (.cycle f) (v.countTiming fun k => { k with periodErrors := satInc k.periodErrors })))) ∧
  (∀ (f : CycleFrame) (s v : State), EndsAtU s → f.entries.length ≤ 64 → s.ncu.state = .running →
      2000 ≤ f.period.toNat → v = s.setCiu { s.ciu with uRx := false } →
        (InWindow s → 32768 ≤ (f.number - (s.ctu.cycle + 1)).toNat →
          exec (.cycle f) s =
            .next (passOn (.cycle f) (v.countTiming fun k => { k with staleFrames := satInc k.staleFrames }))) ∧
          ((s.ctu.tolerance.toNat : Int) < markOffset s →
            exec (.cycle f) s =
              .next (passOn (.cycle f) (v.countTiming fun k => { k with lateFrames := satInc k.lateFrames }))) ∧
          (markOffset s < -(s.ctu.tolerance.toNat : Int) →
            (1 ≤ (f.number - s.ctu.cycle).toNat → (f.number - s.ctu.cycle).toNat ≤ 32767 →
              exec (.cycle f) s =
                .next (passOn (.cycle f) (v.countTiming fun k => { k with earlyFrames := satInc k.earlyFrames }))) ∧
              (((f.number - s.ctu.cycle).toNat = 0 ∨ 32768 ≤ (f.number - s.ctu.cycle).toNat) →
                exec (.cycle f) s =
                  .next (passOn (.cycle f) (v.countTiming fun k => { k with lateFrames := satInc k.lateFrames })))))

/-- The first-frame treatment: in SYNCING with lock stage NONE, or FIRST-SEEN and a frame that does not lock, the
candidate becomes the nominal mark, the frame's number and period are taken, the stage is FIRST-SEEN, "lock starts"
increases by 1 and "entries dropped unlocked" by the entries carried; nothing else changes (R7). -/
def Obligations.FirstFramesStartTheLock : Prop :=
  ∀ (f : CycleFrame) (s : State), EndsAtU s → f.entries.length ≤ 64 → s.ncu.state = .syncing →
    2000 ≤ f.period.toNat →
      (s.ctu.lock = .none ∨ (s.ctu.lock = .firstSeen ∧ ¬(InWindow s ∧ f.number = s.ctu.cycle + 1))) →
        exec (.cycle f) s =
          .next (passOn (.cycle f)
            (((s.setCiu { s.ciu with uRx := false }).setCtu { s.ctu with
                nominal := s.now + s.nodeParams.delayComp.setWidth 32, cycle := f.number, period := f.period
                lock := .firstSeen
                counters := { s.ctu.counters with lockStarts := satInc s.ctu.counters.lockStarts } }).setEsu
              { s.esu with
                counters := { s.esu.counters with
                  droppedUnlocked := satAdd s.esu.counters.droppedUnlocked f.entries.length } }))

/-- An accepted CYCLE frame: in RUNNING inside the window with a number equal to or ahead of the expected one, or in
SYNCING with FIRST-SEEN inside the window with the number next in line, which locks the node and moves it to RUNNING.
The frame mark is declared at the candidate, "frames accepted" increases by 1 and "cycles skipped" by the distance
ahead, a RESUMED record is created when misses stood above 0, and misses are 0; a pending commit whose target the number
reaches or passes then swaps. Where that swap has halted the node, nothing more is done; otherwise tolerance and
MISS-LIMIT are loaded from the bank now active and the entries are decoded one at a time in frame order, and then those
of the frame that are due now are taken, in schedule order (R8, R10, R11, R15, R49, R59; which entries are the frame's
is log 25, DEDUCED). -/
def Obligations.AcceptedCycleFramesMarkTheCycle : Prop :=
  (∀ (f : CycleFrame) (s v r w : State) (misses : Nat), EndsAtU s → f.entries.length ≤ 64 → 2000 ≤ f.period.toNat →
    InWindow s →
      ((s.ncu.state = .running ∧ (f.number - (s.ctu.cycle + 1)).toNat ≤ 32767 ∧ misses = s.ctu.misses) ∨
        (s.ncu.state = .syncing ∧ s.ctu.lock = .firstSeen ∧ f.number = s.ctu.cycle + 1 ∧ misses = 0)) →
        v = (((s.setCiu { s.ciu with uRx := false }).setNcu { s.ncu with state := .running }).setCtu
            { s.ctu with
              nominal := s.now + s.nodeParams.delayComp.setWidth 32, cycle := f.number, period := f.period
              misses := 0, lock := if s.ncu.state = .syncing then .locked else s.ctu.lock
              counters := { s.ctu.counters with
                framesAccepted := satInc s.ctu.counters.framesAccepted
                cyclesSkipped :=
                  if s.ncu.state = .syncing then s.ctu.counters.cyclesSkipped
                  else satAdd s.ctu.counters.cyclesSkipped (f.number - (s.ctu.cycle + 1)).toNat } }) →
          r = (if misses = 0 then v else report (.sync .resumed f.number (BitVec.ofNat 8 misses)) v) →
            (MarkSwaps f.number s → w = swapBanks .targeted r) → (¬MarkSwaps f.number s → w = r) →
              (w.ncu.state = .halted → exec (.cycle f) s = .next (passOn (.cycle f) w)) ∧
                (w.ncu.state ≠ .halted →
                  exec (.cycle f) s =
                    .next (passOn (.cycle f)
                      (takeDecoded f.number
                        (decodeEntriesFrom (s.now + s.nodeParams.delayComp.setWidth 32) f.number f.period 0 f.entries
                          (w.setCtu { w.ctu with
                            tolerance := w.nodeParams.syncTolerance, missLimit := w.nodeParams.missLimit })))))) ∧
  (∀ (mark : Time) (number period : Half) (index : Nat) (e : Entry) (rest : List Entry) (s : State),
    decodeEntriesFrom mark number period index [] s = s ∧
      decodeEntriesFrom mark number period index (e :: rest) s =
        decodeEntriesFrom mark number period (index + 1) rest (decodeEntry mark number period index e s)) ∧
  ∀ (number : Half) (s : State),
    takeDecoded number s =
      (s.esu.schedule.filter fun e => decide (e.due = s.now ∧ e.source = number)).foldl
        (fun t e =>
          match e.work with
          | .leg l target => requestLeg l target t
          | .strobe x => takeStrobe x t)
        (s.setEsu { s.esu with schedule := s.esu.schedule.filter fun e => !decide (e.due = s.now ∧ e.source = number) })

/-- Claims, in a bank that passes validation: an address of an enabled leg claims that leg, an address of a used strobe
that strobe, and an address that none of them holds claims nothing (R50). -/
def Obligations.EntriesClaimTheirDestination : Prop :=
  ∀ (b : Bank) (a : Byte), validate b = none →
    claimant b 0 = none ∧
    (∀ l, (b.legs.get l).mode.enabled = true → (b.legs.get l).address = a → claimant b a = some (.leg l)) ∧
      (∀ x, (b.strobes.get x).address = a → a ≠ 0 → claimant b a = some (.strobe x)) ∧
      ((∀ l, (b.legs.get l).mode.enabled = true → (b.legs.get l).address ≠ a) →
        (∀ x, (b.strobes.get x).address ≠ a) → claimant b a = none)

/-- Decoding one entry. An unclaimed entry is counted. A claimed entry is put to tests 1 to 4 of Table 14 in their
order: KIND-MISMATCH, BAD-TARGET, BAD-OFFSET (OFFSET not below P), BAD-WIDTH (a PULSE with WIDTH 0 or OFFSET + WIDTH
above 2P - 1, a CENTRED entry with WIDTH outside 1..P); one that fails is counted rejected with a REJECT record naming
the first test failed. A DRIVE or STROBE entry gives one schedule entry, due OFFSET after the mark; a PULSE entry two,
due OFFSET and OFFSET plus WIDTH after it; a CENTRED entry two, due floor((P - WIDTH)/2) and WIDTH later; the second
asks for the complement: on a COMPLEMENTARY leg LOWER for UPPER and UPPER for LOWER, on a SINGLE leg OFF for UPPER. They
are placed when 64 places and those they supersede suffice, and the entry is rejected SCHEDULE-FULL otherwise. Placing a
schedule entry removes, without taking it, an entry of the same destination and due time, counted in "entries
superseded", and inserts the new one behind every entry due no later (R49 to R58). -/
def Obligations.EntriesArePlacedWholeOrNotAtAll : Prop :=
  (∀ (mark : Time) (number period : Half) (index : Nat) (e : Entry) (s : State),
      (claimant s.activeBank e.address = none →
        decodeEntry mark number period index e s = s.countEntries fun k => { k with unclaimed := satInc k.unclaimed }) ∧
        ∀ d, claimant s.activeBank e.address = some d →
          (∀ reason, entryFault s.activeBank d period e = some reason →
            decodeEntry mark number period index e s =
              report (.reject number (BitVec.ofNat 8 index) reason e.address)
                (s.countEntries fun k => { k with rejected := satInc k.rejected })) ∧
            (entryFault s.activeBank d period e = none →
              ∀ parts first,
                first =
                  { due :=
                      mark +
                        (if e.kind = .centred then BitVec.ofNat 32 ((period.toNat - e.width.toNat) / 2)
                          else e.offset.setWidth 32)
                    work := workOf d e.target, source := number, part := .one } →
                parts =
                  (if e.kind = .pulse ∨ e.kind = .centred then
                    [first,
                      { due := first.due + e.width.setWidth 32, work := complementWork s.activeBank d e.target
                        source := number, part := .two }]
                  else [first]) →
                (parts.length ≤
                    64 - s.esu.schedule.length +
                      (s.esu.schedule.filter fun x =>
                        parts.any fun p => decide (x.work.dest = p.work.dest) && decide (x.due = p.due)).length →
                  decodeEntry mark number period index e s =
                    (parts.foldl (fun t p => placePart p t) s).countEntries fun k =>
                      { k with placed := satInc k.placed }) ∧
                  (64 - s.esu.schedule.length +
                      (s.esu.schedule.filter fun x =>
                        parts.any fun p => decide (x.work.dest = p.work.dest) && decide (x.due = p.due)).length <
                      parts.length →
                    decodeEntry mark number period index e s =
                      report (.reject number (BitVec.ofNat 8 index) .scheduleFull e.address)
                        (s.countEntries fun k => { k with rejected := satInc k.rejected })))) ∧
  (∀ (b : Bank) (d : Dest) (period : Half) (e : Entry),
      (FailsKind d e → entryFault b d period e = some .kindMismatch) ∧
        (¬FailsKind d e → FailsTarget b d e → entryFault b d period e = some .badTarget) ∧
        (¬FailsKind d e → ¬FailsTarget b d e → FailsOffset period e → entryFault b d period e = some .badOffset) ∧
        (¬FailsKind d e → ¬FailsTarget b d e → ¬FailsOffset period e → FailsWidth period e →
          entryFault b d period e = some .badWidth) ∧
        (¬FailsKind d e → ¬FailsTarget b d e → ¬FailsOffset period e → ¬FailsWidth period e →
          entryFault b d period e = none)) ∧
  (∀ (b : Bank) (l : LegId) (x : StrobeId) (t : Target),
      workOf (.leg l) t = .leg l t ∧ workOf (.strobe x) t = .strobe x ∧
        ((b.legs.get l).mode = .complementary → complementWork b (.leg l) .upper = .leg l .lower) ∧
        ((b.legs.get l).mode = .complementary → complementWork b (.leg l) .lower = .leg l .upper) ∧
        ((b.legs.get l).mode = .single → complementWork b (.leg l) .upper = .leg l .off)) ∧
  (∀ (e : SchedEntry) (s t : State), t = placePart e s →
      t = s.setEsu { s.esu with schedule := t.esu.schedule, counters := t.esu.counters } ∧
        t.esu.schedule.Perm
          (e :: s.esu.schedule.filter fun x => !decide (x.work.dest = e.work.dest ∧ x.due = e.due)) ∧
        t.esu.counters =
          { s.esu.counters with
            superseded :=
              satAdd s.esu.counters.superseded
                (s.esu.schedule.filter fun x => decide (x.work.dest = e.work.dest ∧ x.due = e.due)).length } ∧
        (dueOrdered s.now s.esu.schedule → dueOrdered s.now t.esu.schedule) ∧
        ∃ before after, t.esu.schedule = before ++ e :: after ∧ (∀ x ∈ before, aheadOf s.now x ≤ aheadOf s.now e) ∧
          ∀ x rest, after = x :: rest → aheadOf s.now e < aheadOf s.now x)

/-- WINDOW_CLOSE when the awaited window closes: the cycle number and misses increase by 1, the nominal mark becomes the
window's centre, and "coasted marks" increases by 1. In RUNNING a pending commit whose target the new number reaches or
passes then swaps, and where that swap has halted the node nothing more is done. With misses below the MISS-LIMIT in
force, SYNCING changes nothing else, and RUNNING loads tolerance and MISS-LIMIT from the bank now active, creates a
COAST record at the first miss, and gives the coast order. With misses at MISS-LIMIT or above a LINK-LOSS halt is
counted and ordered (R9, R13 to R15). -/
def Obligations.ClosedWindowsCoastOrHalt : Prop :=
  ∀ s v : State, WindowCloses s →
    v = s.setCtu { s.ctu with
        cycle := s.ctu.cycle + 1, nominal := s.ctu.nominal + s.ctu.period.setWidth 32, misses := s.ctu.misses + 1
        counters := { s.ctu.counters with coastedMarks := satInc s.ctu.counters.coastedMarks } } →
      (s.ncu.state = .syncing →
        (s.ctu.misses + 1 < s.ctu.missLimit.toNat → exec .windowClose s = .next v) ∧
          (s.ctu.missLimit.toNat ≤ s.ctu.misses + 1 →
            exec .windowClose s =
              .next (haltOrder .linkLoss
                (v.countTiming fun k => { k with linkLossHalts := satInc k.linkLossHalts })))) ∧
        (s.ncu.state = .running →
          ∀ w, (MarkSwaps (s.ctu.cycle + 1) s → w = swapBanks .targeted v) →
            (¬MarkSwaps (s.ctu.cycle + 1) s → w = v) →
              (w.ncu.state = .halted → exec .windowClose s = .next w) ∧
                (w.ncu.state ≠ .halted → s.ctu.missLimit.toNat ≤ s.ctu.misses + 1 →
                  exec .windowClose s =
                    .next (haltOrder .linkLoss
                      (w.countTiming fun k => { k with linkLossHalts := satInc k.linkLossHalts }))) ∧
                (w.ncu.state ≠ .halted → s.ctu.misses + 1 < s.ctu.missLimit.toNat →
                  ∀ x, x = w.setCtu { w.ctu with
                      tolerance := w.nodeParams.syncTolerance, missLimit := w.nodeParams.missLimit } →
                    exec .windowClose s =
                      .next (coastOrder
                        (if s.ctu.misses = 0 then report (.sync .coast (s.ctu.cycle + 1) 0) x else x))))

/-- The coast order: the entries of COAST=OFF legs leave the schedule as one discard event with REASON COAST, counted
and reported as such, and no other record is created; those legs are OFF unless HELD-OFF or SAFE, a conducting switch
off with LAST-OFF now; the entries and records of COAST=HOLD legs, and all strobe entries, stay (R39, R67). -/
def Obligations.CoastOrdersStopTheOffLegs : Prop :=
  ∀ (s d : State) (keep : SchedEntry → Bool),
    (∀ e, keep e =
      match e.work with
      | .leg l _ => decide ((s.legParams l).coast = .hold)
      | .strobe _ => true) →
    d = discardEntries keep .coast s →
    (coastOrder s).esu.schedule = s.esu.schedule.filter keep ∧ (coastOrder s).esu = d.esu ∧
      (coastOrder s).rpu = d.rpu ∧ (coastOrder s).fbm.edgeCounts = d.fbm.edgeCounts ∧
      (coastOrder s).esu.pulses = s.esu.pulses ∧ SameOutside s (coastOrder s) ∧ (coastOrder s).ncu = s.ncu ∧
      (coastOrder s).pru = s.pru ∧ (coastOrder s).bks = s.bks ∧ (coastOrder s).lge.counters = s.lge.counters ∧
      ∀ l, ((s.legParams l).coast = .hold → (coastOrder s).leg l = s.leg l) ∧
        ((s.legParams l).coast = .off →
          (∀ sd a m d f, (s.leg l).cond = .on sd a m d f →
            (coastOrder s).leg l = { cond := .off, lastOff := s.now, rested := false }) ∧
            (∀ p e r, (s.leg l).cond = .gap p e r → (coastOrder s).leg l = { s.leg l with cond := .off }) ∧
            ((s.leg l).cond.inert = true ∨ (s.leg l).cond.isSafe = true → (coastOrder s).leg l = s.leg l))

/-! ## Schedule, strobes and discards -/

/-- SCHEDULE_TAKE when the head's DUE is reached: every entry with that DUE leaves the head of the schedule, and each is
delivered in schedule order, as a request to its leg or as a pulse of its strobe; the later entries stay (R60). -/
def Obligations.DueEntriesAreTakenInOrder : Prop :=
  ∀ (due rest : List SchedEntry) (d : Time) (s : State), s.esu.schedule = due ++ rest → due ≠ [] →
    (∀ e ∈ due, e.due = d) → (∀ e later, rest = e :: later → e.due ≠ d) → reached s.now d = true →
      exec .scheduleTake s =
        .next (due.foldl
          (fun t e =>
            match e.work with
            | .leg l target => requestLeg l target t
            | .strobe x => takeStrobe x t)
          (s.setEsu { s.esu with schedule := rest }))

/-- A strobe entry taken sets PULSE-END to now plus PULSE-WIDTH, and counts a pulse on a low line and a retrigger on a
high one; PULSE_END at a PULSE-END that is reached makes the line low. Nothing else changes (R62). -/
def Obligations.StrobesPulseForTheirWidth : Prop :=
  ∀ (x : StrobeId) (s : State),
    takeStrobe x s =
        s.setEsu { s.esu with
          pulses := s.esu.pulses.set x (some (s.now + (s.activeBank.strobes.get x).pulseWidth.setWidth 32))
          counters := { s.esu.counters with
            strobePulses :=
              if s.esu.pulses.get x = none then satInc s.esu.counters.strobePulses else s.esu.counters.strobePulses
            strobeRetrigs :=
              if s.esu.pulses.get x = none then s.esu.counters.strobeRetrigs
              else satInc s.esu.counters.strobeRetrigs } } ∧
      ∀ d, s.esu.pulses.get x = some d → reached s.now d = true →
        exec (.pulseEnd x) s = .next (s.setEsu { s.esu with pulses := s.esu.pulses.set x none })

/-- A discard event that removes entries counts them in "entries discarded" and creates one DISCARD record with their
number, the number of second parts among them, and a source cycle of one of them that none of the others is behind when
all lie in one half of the cycle count (where they do not, which of them it names is the model's choice: log 26); one
that finds nothing to remove changes nothing (R65). -/
def Obligations.DiscardsAreCountedAndReported : Prop :=
  ∀ (keep : SchedEntry → Bool) (reason : DiscardReason) (s : State) (gone : List SchedEntry),
    gone = s.esu.schedule.filter (fun e => !keep e) →
      (gone = [] → discardEntries keep reason s = s) ∧
        (gone ≠ [] →
          ∃ first, (∃ e ∈ gone, e.source = first) ∧
            ((∃ base : Half, ∀ e ∈ gone, (e.source - base).toNat < 32768) →
              ∀ e ∈ gone, cycleBehind e.source first = false) ∧
            discardEntries keep reason s =
              report
                (.discard reason (BitVec.ofNat 8 gone.length)
                  (BitVec.ofNat 8 (gone.filter fun e => decide (e.part = .two)).length) first)
                (s.setEsu { s.esu with
                  schedule := s.esu.schedule.filter keep
                  counters := { s.esu.counters with
                    discarded := satAdd s.esu.counters.discarded gone.length } }))
/-! ## The legs' timed events -/

/-- GAP_END and SETTLE_END at an end that is reached. With the confirm condition met the waiting switch turns on: from
GAP the leg is on that side with the times of R24, from SETTLING its phase is CLAMPED; LAST-OFF stays, and an open watch
of that switch is counted in "watches replaced" (R75). Otherwise the leg goes on waiting, its end found reached (R32,
R43). -/
def Obligations.GapAndSettleEndsTurnTheSwitchOn : Prop :=
  ∀ (l : LegId) (sw : Switch) (e : Time) (s : State), reached s.now e = true →
    ((s.leg l).cond = .gap sw e false →
      (ConfirmMet l sw s →
        ∃ t, exec (.gapEnd l) s = .next t ∧ LegFrame l s t ∧ MonitorsFollow l s t ∧ WatchesReplaced l s t ∧
          t.lge.counters = s.lge.counters ∧ t.leg l =
            { s.leg l with
              cond :=
                .on sw s.now (if (s.legParams l).minOn = 0 then none else some (s.now + (s.legParams l).minOn.setWidth 32))
                  (if (s.legParams l).maxOn = 0 then none else some (s.now + (s.legParams l).maxOn.setWidth 32)) none }) ∧
        (¬ConfirmMet l sw s →
          exec (.gapEnd l) s = .next (s.setLeg l { s.leg l with cond := .gap sw e true }))) ∧
      ∀ cs, (s.leg l).cond = .safe cs (.settling e false) (some sw) →
        (ConfirmMet l sw s →
          ∃ t, exec (.settleEnd l) s = .next t ∧ LegFrame l s t ∧ MonitorsFollow l s t ∧ WatchesReplaced l s t ∧
            t.lge.counters = s.lge.counters ∧
            t.leg l = { s.leg l with cond := .safe cs .clamped (some sw) }) ∧
          (¬ConfirmMet l sw s →
            exec (.settleEnd l) s =
              .next (s.setLeg l { s.leg l with cond := .safe cs (.settling e true) (some sw) }))

/-- MIN_ON_END at a MIN-ON-END that is reached: it is removed with DEFERRED, and a DEFERRED target that was there is
then applied as a request (R33). MAX_ON_END at a MAX-ON-END that is reached: the switch turns off, the leg is OFF with
LAST-OFF now, an open watch of the switch is counted in "watches replaced" (R75; log 23, DEDUCED), and an OVERLONG
record is created; with OVERLONG-ACTION TRIP cause OVERLONG is then added (R34, R35). -/
def Obligations.OnTimeEndsActOnTheLeg : Prop :=
  (∀ (l : LegId) (side : Switch) (since e : Time) (maxEnd : Option Time) (deferred : Option Target) (s t : State),
      (s.leg l).cond = .on side since (some e) maxEnd deferred → reached s.now e = true →
        t = s.setLeg l { s.leg l with cond := .on side since none maxEnd none } →
          (deferred = none → exec (.minOnEnd l) s = .next t) ∧
            ∀ target, deferred = some target → exec (.minOnEnd l) s = .next (requestLeg l target t)) ∧
  (∀ (l : LegId) (side : Switch) (since e : Time) (minEnd : Option Time) (deferred : Option Target) (s : State),
      (s.leg l).cond = .on side since minEnd (some e) deferred → reached s.now e = true →
        ∃ t, LegFrame l s t ∧ MonitorsFollow l s t ∧ WatchesReplaced l s t ∧ t.lge.counters = s.lge.counters ∧
          t.leg l = { cond := .off, lastOff := s.now, rested := false } ∧
          ((s.legParams l).overlongAction = .off →
            exec (.maxOnEnd l) s = .next (report (.overlong l side .off s.now) t)) ∧
          ((s.legParams l).overlongAction = .trip →
            exec (.maxOnEnd l) s = .next (addCause l .overlong false (report (.overlong l side .trip s.now) t))))

/-! ## Feedback -/

/-- WATCH_DEADLINE and FILTER_END at a time that is reached: the monitor is FAILED (after a watch, IDLE where
CONFIRM-WINDOW has become 0: R86 and log 22, DEDUCED), the failure or disagreement is counted, a CONFIRM-FAIL record is
created, cause CONFIRM is added with the clamp suppressed when the switch was expected or commanded off, and with
CONFIRM-ESCALATION NODE a CONFIRM halt is ordered; in SYNCING, RUNNING and HALTED it is the halt order of R119 or R120
(R77, R79 to R81). A disagreement is the same whichever way its monitor came to it. -/
def Obligations.FailuresAreReportedAndHandled : Prop :=
  (∀ (l : LegId) (sw : Switch) (d : Time) (s v : State), reached s.now d = true →
    (∀ expected c, s.monitor l sw = .watching expected c d →
      v = addCause l .confirm (!expected)
          (report (.confirmFail l sw .watch expected (!expected) s.now)
            ((s.setMonitor l sw (if (s.legParams l).confirmWindow = 0 then .idle else .failed)).countFeedback fun k =>
              { k with confirmFailures := satInc k.confirmFailures })) →
        (s.nodeParams.confirmEscalation = .leg → exec (.watchDeadline l sw) s = .next v) ∧
          (s.nodeParams.confirmEscalation = .node →
            exec (.watchDeadline l sw) s = .next (haltByMonitor .confirm v))) ∧
      (s.monitor l sw = .filtering d → exec (.filterEnd l sw) s = .next (disagree l sw s)) ∧
      (Operating s ∨ s.ncu.state = .halted → haltByMonitor .confirm s = haltOrder .confirm s)) ∧
  ∀ (l : LegId) (sw : Switch) (s v : State),
    v = addCause l .confirm (!s.commanded l sw)
        (report (.confirmFail l sw .disagree (s.commanded l sw) (!s.commanded l sw) s.now)
          ((s.setMonitor l sw .failed).countFeedback fun k =>
            { k with disagreements := satInc k.disagreements })) →
      (s.nodeParams.confirmEscalation = .leg → disagree l sw s = v) ∧
        (s.nodeParams.confirmEscalation = .node → disagree l sw s = haltByMonitor .confirm v)

/-- FEEDBACK_INPUT_CHANGE to a new level records the level and has the switch's monitor judge it as an edge; a change to
the level held is none. An IDLE monitor changes nothing. A QUIET one whose input disagrees begins filtering for
DISAGREE-FILTER ticks, and with DISAGREE-FILTER 0 the disagreement follows at once. A FILTERING or FAILED one whose
input agrees is QUIET. An open watch whose input shows what it expects ends QUIET (IDLE where CONFIRM-WINDOW has become
0: log 22). On an edge after the command instant an EDGE record follows where CAPTURE and CAPTURE-REPORTS ask for one,
or an overrun is counted when the leg has two queued; at the command instant, and where the input has not changed, no
edge is observed and none follows (log 11). With "off" expected, a leg that waits in GAP or SETTLING for this switch's
confirmation first turns its switch on, and the EDGE record, where one is due, follows (R26, R43, R73, R75, R76, R78,
R82 to R84). -/
def Obligations.FeedbackChangesAreJudged : Prop :=
  (∀ (l : LegId) (sw : Switch) (v : Level) (s : State),
    ((s.pins.feedback.get l).get sw ≠ v →
      exec (.feedbackInputChange l sw v) s = .next (observe l sw true (s.setFeedbackPin l sw v))) ∧
      ((s.pins.feedback.get l).get sw = v → exec (.feedbackInputChange l sw v) s = .next s)) ∧
  ∀ (l : LegId) (sw : Switch) (edge : Bool) (s : State),
    (s.monitor l sw = .idle → observe l sw edge s = s) ∧
      (s.monitor l sw = .quiet →
        (s.feedbackOn l sw = s.commanded l sw → observe l sw edge s = s) ∧
          (s.feedbackOn l sw ≠ s.commanded l sw → (s.legParams l).disagreeFilter ≠ 0 →
            observe l sw edge s =
              s.setMonitor l sw (.filtering (s.now + (s.legParams l).disagreeFilter.setWidth 32))) ∧
          (s.feedbackOn l sw ≠ s.commanded l sw → (s.legParams l).disagreeFilter = 0 →
            observe l sw edge s = disagree l sw s)) ∧
      (((∃ d, s.monitor l sw = .filtering d) ∨ s.monitor l sw = .failed) →
        (s.feedbackOn l sw = s.commanded l sw → observe l sw edge s = s.setMonitor l sw .quiet) ∧
          (s.feedbackOn l sw ≠ s.commanded l sw → observe l sw edge s = s)) ∧
      ∀ expected c d, s.monitor l sw = .watching expected c d →
        (s.feedbackOn l sw ≠ expected → observe l sw edge s = s) ∧
          (s.feedbackOn l sw = expected →
            ∀ q due, q = s.setMonitor l sw (if (s.legParams l).confirmWindow = 0 then .idle else .quiet) →
              (due ↔ (edge = true ∧ s.now ≠ c ∧ (s.legParams l).capture = .edges ∧
                s.nodeParams.captureReports = true)) →
                ((expected = true ∨
                    ∀ w, WaitsConfirm l w s → sw ≠ (if (s.legParams l).mode = .single then .upper else otherSwitch w)) →
                  EdgeFollows l sw expected c due q (observe l sw edge s)) ∧
                  (expected = false →
                    ∀ w, WaitsConfirm l w s →
                      sw = (if (s.legParams l).mode = .single then .upper else otherSwitch w) →
                        ∃ j, LegFrame l q j ∧ MonitorsFollow l q j ∧ WatchesReplaced l q j ∧
                          j.lge.counters = s.lge.counters ∧
                          (∀ e, (s.leg l).cond = .gap w e true →
                            j.leg l = { s.leg l with cond := onCond (s.legParams l) w s.now }) ∧
                          (∀ cs e, (s.leg l).cond = .safe cs (.settling e true) (some w) →
                            j.leg l = { s.leg l with cond := .safe cs .clamped (some w) }) ∧
                          EdgeFollows l sw expected c due j (observe l sw edge s)))

/-! ## Fault inputs -/

/-- FAULT_ASSERTION on an ACTIVE entry whose input reads deasserted. In IDLE the channel is QUALIFYING with DEADLINE now
plus QUALIFY and "fault assertions" increases by 1; with FAST each enabled leg of the affected set that is not in SAFE
is HELD-OFF by it, LAST-OFF now, and the set is FORCED; without FAST no leg changes; with QUALIFY 0 it then trips at
once. In HOLDING the channel is ACTIVE again and nothing else changes but the pin (R90, R93, R94, R96, R100). -/
def Obligations.FaultAssertionsQualifyOrResume : Prop :=
  ∀ (n : ChanId) (s p : State) (forced : LegSet), (s.protParams n).use = .active → s.faultAsserted n = false →
    p = s.setFaultPin n (s.protParams n).assertLevel →
      (∀ d, s.channel n = .holding d → exec (.faultAssertion n) s = .next (p.setChannel n .active)) ∧
        (s.channel n = .idle →
          exec (.faultAssertion n) s = .next (takeAssertion n p) ∧
          ((∀ l, forced.get l =
            ((s.protParams n).fast &&
              (match (s.protParams n).action with
                | .tripLegs => (s.protParams n).legs.get l
                | .haltNode => s.legEnabled l))) →
            ∃ t, ((s.protParams n).qualify ≠ 0 → takeAssertion n p = t) ∧
              ((s.protParams n).qualify = 0 → takeAssertion n p = tripChannel n forced t) ∧
              t.channel n =
                .qualifying (s.now + (s.protParams n).qualify.setWidth 32) (s.protParams n).fast forced ∧
              (∀ k, k ≠ n → t.channel k = s.channel k) ∧
              t.pru.counters = { s.pru.counters with assertions := satInc s.pru.counters.assertions } ∧
              SameButLegs (p.setPru t.pru) t ∧ t.lge.counters = s.lge.counters ∧
              ((s.protParams n).fast = false → t.lge = s.lge ∧ t.fbm = s.fbm) ∧
              ∀ l, ((forced.get l = false ∨ s.legEnabled l = false ∨ (s.leg l).cond.isSafe = true) →
                  t.leg l = s.leg l) ∧
                (forced.get l = true → s.legEnabled l = true → (s.leg l).cond.isSafe = false →
                  ∃ held, t.leg l = { cond := .heldOff held, lastOff := s.now, rested := false } ∧
                    held.get n = true)))

/-- FAULT_DEASSERTION of an input that reads asserted. In QUALIFYING it is a glitch: a GLITCH record, the withdraw to
FORCED, the channel IDLE and "fault glitches" increased; the glitch of a changed entry differs in its REASON only. In
ACTIVE a LATCHED channel is IDLE and an AUTO one HOLDING with DEADLINE now plus HOLD, with no record and no leg changed
(R95, R99, R103). -/
def Obligations.FaultDeassertionsGlitchOrHold : Prop :=
  (∀ (n : ChanId) (s p : State), s.faultAsserted n = true →
    p = s.setFaultPin n (otherLevel (s.protParams n).assertLevel) →
      (∀ d b forced, s.channel n = .qualifying d b forced →
        exec (.faultDeassertion n) s = .next (glitch n .deasserted forced p)) ∧
        (s.channel n = .active →
          ((s.protParams n).latch = .latched → exec (.faultDeassertion n) s = .next (p.setChannel n .idle)) ∧
            ((s.protParams n).latch = .auto →
              exec (.faultDeassertion n) s =
                .next (p.setChannel n (.holding (s.now + (s.protParams n).hold.setWidth 32)))))) ∧
  ∀ (n : ChanId) (reason : GlitchReason) (forced : LegSet) (s t : State), t = glitch n reason forced s →
    t.channel n = .idle ∧ (∀ k, k ≠ n → t.channel k = s.channel k) ∧
      t.pru.counters = { s.pru.counters with glitches := satInc s.pru.counters.glitches } ∧
      t.rpu = (report (.glitch n reason forced s.now) s).rpu ∧
      t.fbm = (report (.glitch n reason forced s.now) s).fbm ∧
      t.ctu = s.ctu ∧ t.esu = s.esu ∧ t.bks = s.bks ∧ t.mgu = s.mgu ∧ t.ncu = s.ncu ∧ t.ciu = s.ciu ∧
      t.pins = s.pins ∧ t.pending = s.pending ∧ t.freeIndex = s.freeIndex ∧
      t.lge.counters = s.lge.counters ∧
      ∀ l, t.leg l = if forced.get l then (withdrawLeg n l s).leg l else s.leg l

/-- QUALIFY_DEADLINE at a DEADLINE that is reached completes: the channel is ACTIVE, "fault trips" increased. For
TRIP-LEGS a TRIP record names LEGS and each of them takes cause FIn. For HALT-NODE a TRIP record names the enabled legs;
then, at an addressed node, the halt order FAULT-n is given, its records behind the TRIP record, and the legs of FORCED
that have not entered SAFE take the withdraw; in UNADDRESSED every enabled leg takes cause FIn instead, one that was not
in SAFE entering it in phase OPEN (R96, R97). -/
def Obligations.QualifiedFaultsTrip : Prop :=
  ∀ (n : ChanId) (d : Time) (b : Bool) (forced : LegSet) (s : State),
    s.channel n = .qualifying d b forced → reached s.now d = true →
      ∃ t, exec (.qualifyDeadline n) s = .next t ∧ t = tripChannel n forced s ∧ t.channel n = .active ∧
        (∀ k, k ≠ n → t.channel k = s.channel k) ∧
        t.pru.counters = { s.pru.counters with trips := satInc s.pru.counters.trips } ∧ SameOutside s t ∧
        ((s.protParams n).action = .tripLegs →
          t.rpu = (report (.trip n .tripLegs .qualified (s.protParams n).legs s.now) s).rpu ∧ t.ncu = s.ncu ∧
            t.ctu = s.ctu ∧ t.esu = s.esu ∧ t.bks = s.bks ∧ t.lge.counters = s.lge.counters ∧
            ∀ l, (s.legEnabled l = true → (s.protParams n).legs.get l = true →
                t.leg l = (addCause l (.fi n) false s).leg l ∧ (t.leg l).cond.isSafe = true ∧
                  (t.leg l).cond.causes = (s.leg l).cond.causes.add (.fi n)) ∧
              ((s.legEnabled l = false ∨ (s.protParams n).legs.get l = false) → forced.get l = false →
                t.leg l = s.leg l)) ∧
        ((s.protParams n).action = .haltNode → s.ncu.state ≠ .unaddressed →
          ∀ h, h = haltOrder (.fault n) (report (.trip n .haltNode .qualified s.enabledLegs s.now) s) →
            t = (h.setPru t.pru).setLge { h.lge with legs := t.lge.legs } ∧
              (∀ l, (forced.get l = true → t.leg l = (withdrawLeg n l h).leg l) ∧
                ((forced.get l = false ∨ (h.leg l).cond.isSafe = true) → t.leg l = h.leg l)) ∧
              t.ncu.state = .halted ∧ t.ncu.causes.has (.fault n) = true ∧
              (s.ncu.state = .halted →
                t.rpu =
                  (report (.halt (.fault n) (s.ncu.causes.add (.fault n)) .halted s.now)
                    (report (.trip n .haltNode .qualified s.enabledLegs s.now) s)).rpu)) ∧
        ((s.protParams n).action = .haltNode → s.ncu.state = .unaddressed →
          t.rpu = (report (.trip n .haltNode .qualified s.enabledLegs s.now) s).rpu ∧ t.ncu = s.ncu ∧
            t.ctu = s.ctu ∧ t.esu = s.esu ∧ t.bks = s.bks ∧ t.lge.counters = s.lge.counters ∧
            ∀ l, (s.legEnabled l = true →
                t.leg l = (addCause l (.fi n) false s).leg l ∧ (t.leg l).cond.isSafe = true ∧
                  (t.leg l).cond.causes = (s.leg l).cond.causes.add (.fi n) ∧
                  ((s.leg l).cond.isSafe = false →
                    ∃ k, (t.leg l).cond = .safe (Causes.empty.add (.fi n)) .opened k)) ∧
              (s.legEnabled l = false →
                t.leg l = if forced.get l = true then (withdrawLeg n l s).leg l else s.leg l))

/-- RELEASE at a DEADLINE that is reached: FIn leaves every leg that holds it, a RELEASE record names those legs, the
channel is IDLE and "fault releases" increases by 1. A leg left without a cause leaves SAFE with LAST-OFF now, for OFF
or, where a qualifying channel forces it, HELD-OFF; a leg with another cause keeps its phase. The release of a changed
entry differs in its BASIS only (R45, R101, R103). -/
def Obligations.HeldFaultsRelease : Prop :=
  ∀ (n : ChanId) (d : Time) (s : State), s.channel n = .holding d →
    (reached s.now d = true → exec (.release n) s = .next (releaseChannel n .holdEnd s)) ∧
      ∀ basis t, t = releaseChannel n basis s →
        t.channel n = .idle ∧ (∀ k, k ≠ n → t.channel k = s.channel k) ∧
          t.pru.counters = { s.pru.counters with releases := satInc s.pru.counters.releases } ∧ SameOutside s t ∧
          t.rpu = (report (.release n basis (s.legsHolding (.fi n)) s.now) s).rpu ∧ t.ncu = s.ncu ∧ t.ctu = s.ctu ∧
          t.esu = s.esu ∧ t.bks = s.bks ∧ t.lge.counters = s.lge.counters ∧
          ∀ l, (s.legsHolding (.fi n)).get l = (s.leg l).cond.causes.has (.fi n) ∧
            ((s.leg l).cond.causes.has (.fi n) = false → t.leg l = s.leg l) ∧
            ∀ cs p k, (s.leg l).cond = .safe cs p k → cs.fi.get n = true →
              ((cs.remove (.fi n)).isEmpty = false →
                t.leg l = { s.leg l with cond := .safe (cs.remove (.fi n)) p k }) ∧
                ((cs.remove (.fi n)).isEmpty = true →
                  t.leg l = { cond := heldOrOff (standingForces l s), lastOff := s.now, rested := false })
/-! ## Requests -/

/-- How a MANAGE frame received whole is taken. One that is not for this node changes nothing and is passed on. A
retransmission is answered by a new RESPONSE record with the stored contents, the store unchanged. Any other request
ends in one RESPONSE record and the store's new content; one that the node state does not admit is refused WRONG-STATE,
and one of a code that names no request kind is answered UNKNOWN with the code received (R125, R170, R177 to R179). -/
def Obligations.RequestsAreJudgedInOrder : Prop :=
  (∀ (i : Instr) (h : ManageHead) (r : Request) (s v : State), i.downFrame = some (.manage h r) →
      i.wellFormed = true → EndsAtU s → v = s.setCiu { s.ciu with uRx := false } →
        ((∀ a, s.ciu.address = some a → h.dest ≠ 0 ∧ h.dest ≠ a) →
          exec i s = .next (passOn (.manage h r) v)) ∧
        (∀ a x, s.ciu.address = some a → (h.dest = 0 ∨ h.dest = a) → s.mgu.store = some x → x.seq = h.seq →
          x.code = r.code →
            exec i s = .next (passOn (.manage h r) (report (.response x.seq x.code x.status x.data) v))) ∧
        (FreshRequest h r s →
          ((∃ c p, r = .unknown c p) → exec i s = .next (passOn (.manage h r) (respond h r.code .unknown [] v))) ∧
            (((r = .arm ∧ s.ncu.state ≠ .standby) ∨ (r = .disarm ∧ ¬Operating s) ∨
                (r = .resume ∧ s.ncu.state ≠ .halted) ∨
                ((∃ x, r = .commitImmediate x) ∧ s.ncu.state ≠ .standby ∧ s.ncu.state ≠ .halted) ∨
                ((∃ g, r = .commitTargeted g) ∧ ¬Operating s)) →
              exec i s = .next (passOn (.manage h r) (respond h r.code .wrongState [] v))))) ∧
    (∀ p, (Request.unknown .code0 p).code = 0 ∧ (Request.unknown .code15 p).code = 15) ∧
    ∀ (h : ManageHead) (code : BitVec 4) (status : Status) (data : List Quad) (s : State),
      respond h code status data s =
        (report (.response h.seq code status data) s).setMgu
          { s.mgu with store := some { seq := h.seq, code := code, status := status, data := data } }

/-- ECHO at an addressed node: the response has status DONE and carries the data sent, unit for unit, LENGTH 1 plus
their number; nothing changes but the response store and the response record, and the frame is passed on. -/
def Obligations.EchoReturnsItsData : Prop :=
  ∀ (h : ManageHead) (data : List Quad) (s v : State), data.length ≤ 3 → FreshRequest h (.echo data) s →
    s.ncu.state ≠ .unaddressed → v = s.setCiu { s.ciu with uRx := false } →
      ∃ u, exec (.echo h data) s = .next (passOn (.manage h (.echo data)) u) ∧
        u = (report (.response h.seq 1 .done data) v).setMgu
          { s.mgu with store := some { seq := h.seq, code := 1, status := .done, data := data } } ∧
        SameButReports (v.setMgu u.mgu) u ∧ u.fbm.counters = s.fbm.counters ∧
        (RecBody.response h.seq 1 .done data).length = 1 + data.length

/-- STATUS at an addressed node: DONE with four units that carry, at the places of Table 54, the node state, ACTIVE,
OVERFLOW, whether a commit is pending, the address, the target, the halt causes, the queue and schedule depths, and each
leg's STATE, SAFE-PHASE and CAUSES, all before the response; FAULT-OVERFLOW is cleared (R152, R183; with no commit
pending the target's bytes are 0: log 12). A set of leg causes has the bits of Table 52. -/
def Obligations.StatusReportsTheNode : Prop :=
  (∀ (h : ManageHead) (a : Byte) (s v : State), FreshRequest h .status s → s.ciu.address = some a →
    s.ncu.state ≠ .unaddressed → v = s.setCiu { s.ciu with uRx := false } →
      ∃ (q0 q1 q2 q3 : Quad) (x : BitVec 128), x = q0 ++ q1 ++ q2 ++ q3 ∧
        exec (.status h) s =
          .next (passOn (.manage h .status)
            (respond h 2 .done [q0, q1, q2, q3] (v.setRpu { s.rpu with faultOverflow := false }))) ∧
        x.extractLsb' 125 3 = 0 ∧ x.getLsbD 124 = s.bks.pending.isSome ∧ x.getLsbD 123 = s.rpu.faultOverflow ∧
        x.getLsbD 122 = decide (s.bks.active = .b) ∧
        (s.ncu.state = .standby → x.extractLsb' 120 2 = 0) ∧ (s.ncu.state = .syncing → x.extractLsb' 120 2 = 1) ∧
        (s.ncu.state = .running → x.extractLsb' 120 2 = 2) ∧ (s.ncu.state = .halted → x.extractLsb' 120 2 = 3) ∧
        x.extractLsb' 112 8 = a ∧ (∀ g, s.bks.pending = some g → x.extractLsb' 96 16 = g) ∧
        (s.bks.pending = none → x.extractLsb' 96 16 = 0) ∧ x.extractLsb' 88 8 = 0#1 ++ s.ncu.causes.bits ∧
        x.extractLsb' 80 8 = BitVec.ofNat 8 s.rpu.queue.length ∧
        x.extractLsb' 72 8 = BitVec.ofNat 8 s.esu.schedule.length ∧
        ∀ l, x.extractLsb' (60 - 12 * legIndex l) 12 =
          (match (s.leg l).cond with
            | .off => 0#3
            | .on .upper _ _ _ _ => 1#3
            | .on .lower _ _ _ _ => 2#3
            | .gap _ _ _ => 3#3
            | .heldOff _ => 4#3
            | .safe _ _ _ => 5#3) ++
            (match (s.leg l).cond with
              | .safe _ .opened _ => 1#2
              | .safe _ (.settling _ _) _ => 2#2
              | .safe _ .clamped _ => 3#2
              | _ => 0#2) ++
            (s.leg l).cond.causes.bits) ∧
  ∀ c : Causes, (∀ n, c.bits.getLsbD (chanIndex n) = c.fi.get n) ∧ c.bits.getLsbD 4 = c.confirm ∧
    c.bits.getLsbD 5 = c.overlong ∧ c.bits.getLsbD 6 = c.nodeHalt

/-- COUNTERS at an addressed node. A group above 3 or a page beyond the group's last gives BAD-VALUE and nothing
changes. Page 0, or a page of a group that no snapshot of is held, takes a snapshot of the whole group, clears groups 0
to 2 when CLEAR-FLAG is set, and answers that page of the new snapshot; a later page of the group held answers from the
snapshot held and clears nothing. Pages have 4 units, the last of groups 0, 1 and 2 having 2, 1 and 1, and carry the
group's counters in the order of Table 46, two to a unit in groups 0 to 2 and one in group 3 (R184, R185). -/
def Obligations.CountersAreReadFromASnapshot : Prop :=
  (∀ (h : ManageHead) (group page : Byte) (clearFlag : Bool) (s v : State),
      FreshRequest h (.counters group page clearFlag) s → s.ncu.state ≠ .unaddressed →
        v = s.setCiu { s.ciu with uRx := false } →
          ((3 < group.toNat ∨ ((group = 0 ∨ group = 1) ∧ 1 < page.toNat) ∨ (group = 2 ∧ 2 < page.toNat) ∨
              (group = 3 ∧ 3 < page.toNat)) →
            exec (.counters h group page clearFlag) s =
              .next (passOn (.manage h (.counters group page clearFlag)) (respond h 3 .badValue [] v))) ∧
          (∀ fresh data w,
            ((group = 0 ∧ fresh = .link s.ciu.counters s.rpu.overFull) ∨ (group = 1 ∧ fresh = .timing s.ctu.counters) ∨
              (group = 2 ∧ fresh = .entries s.esu.counters s.lge.counters s.fbm.counters s.pru.counters) ∨
              (group = 3 ∧ fresh = .accounting s.rpu.accounting)) →
              fresh.page page = some data →
                w = (if clearFlag then
                    (if group = 0 then
                      (v.setCiu { v.ciu with counters := LinkCounters.zero }).setRpu { s.rpu with overFull := 0 }
                    else if group = 1 then v.setCtu { s.ctu with counters := TimingCounters.zero }
                    else if group = 2 then
                      (((v.setEsu { s.esu with counters := EntryCounters.zero }).setLge
                          { s.lge with counters := LegCounters.zero }).setFbm
                          { s.fbm with counters := FeedbackCounters.zero }).setPru
                          { s.pru with counters := ProtCounters.zero }
                    else v)
                  else v).setMgu { s.mgu with snapshot := some fresh } →
                  ((page = 0 ∨ ∀ held, s.mgu.snapshot = some held → held.group ≠ group) →
                    exec (.counters h group page clearFlag) s =
                      .next (passOn (.manage h (.counters group page clearFlag)) (respond h 3 .done data w))) ∧
                    ∀ held kept, page ≠ 0 → s.mgu.snapshot = some held → held.group = group →
                      held.page page = some kept →
                        exec (.counters h group page clearFlag) s =
                          .next (passOn (.manage h (.counters group page clearFlag)) (respond h 3 .done kept v)))) ∧
    (∀ (x : Snapshot) (page : Byte),
      (x.page page).map List.length =
        match x with
        | .link _ _ => if page = 0 then some 4 else if page = 1 then some 2 else none
        | .timing _ => if page = 0 then some 4 else if page = 1 then some 1 else none
        | .entries _ _ _ _ => if page = 0 then some 4 else if page = 1 then some 4 else if page = 2 then some 1 else none
        | .accounting _ => if page.toNat ≤ 3 then some 4 else none) ∧
    ∀ (c : LinkCounters) (overFull : Half) (k : TimingCounters) (e : EntryCounters) (l : LegCounters)
      (f : FeedbackCounters) (p : ProtCounters) (a : PerClass Accounting),
      (Snapshot.link c overFull).page 0 =
          some [c.uCheckErrors ++ c.dCheckErrors, c.wrongPort ++ c.downstreamOverflow,
            c.upstreamOverflow ++ c.downstreamDiscards, c.upstreamDiscards ++ c.uPartnerLosses] ∧
        (Snapshot.link c overFull).page 1 =
          some [c.dPartnerLosses ++ c.returnsOriginated, c.enumMismatches ++ overFull] ∧
        (Snapshot.timing k).page 0 =
          some [k.framesAccepted ++ k.lockStarts, k.earlyFrames ++ k.lateFrames, k.staleFrames ++ k.cyclesSkipped,
            k.coastedMarks ++ k.periodErrors] ∧
        (Snapshot.timing k).page 1 = some [k.framesIgnored ++ k.linkLossHalts] ∧
        (Snapshot.entries e l f p).page 0 =
          some [e.placed ++ e.unclaimed, e.rejected ++ e.droppedUnlocked, e.superseded ++ e.discarded,
            e.strobePulses ++ e.strobeRetrigs] ∧
        (Snapshot.entries e l f p).page 1 =
          some [l.refused ++ l.deferredReplaced, f.confirmFailures ++ f.disagreements,
            f.watchesReplaced ++ f.edgeOverruns, p.assertions ++ p.glitches] ∧
        (Snapshot.entries e l f p).page 2 = some [p.trips ++ p.releases] ∧
        (Snapshot.accounting a).page 0 = some [a.f.placed, a.f.sent, a.f.dropped, a.f.held] ∧
        (Snapshot.accounting a).page 1 = some [a.m.placed, a.m.sent, a.m.dropped, a.m.held] ∧
        (Snapshot.accounting a).page 2 = some [a.e.placed, a.e.sent, a.e.dropped, a.e.held] ∧
        (Snapshot.accounting a).page 3 = some [a.c.placed, a.c.sent, a.c.dropped, a.c.held]

/-- READ and WRITE at an addressed node, each first refused BAD-TARGET for a table above 3 or an index beyond the table;
table 0 with index i names leg i, table 1 strobe i, table 2 channel i, table 3 with index 0 the node record. READ
answers DONE with the named record's bytes in the active bank for BANK 0 and in the shadow for BANK 1, BAD-VALUE for
another, and changes nothing. WRITE is refused LOCKED while a commit is pending, BAD-VALUE exactly when its bytes hold a
field out of range, and otherwise DONE: the named record of the shadow is the one its bytes carry and reads back as
such, every other record of the shadow reads as before, and nothing else changes (R129, R130, R186). -/
def Obligations.ReadAndWriteReachOneRecord : Prop :=
  (∀ (h : ManageHead) (table index : Byte) (s v : State), s.ncu.state ≠ .unaddressed →
    v = s.setCiu { s.ciu with uRx := false } →
      (∀ bank, FreshRequest h (.read bank table index) s →
        (recordOf table index = none →
          exec (.read h bank table index) s =
            .next (passOn (.manage h (.read bank table index)) (respond h 4 .badTarget [] v))) ∧
          ∀ name, recordOf table index = some name →
            ((bank = 0 →
                ∃ data, bytesOfQuads data = readRecord s.activeBank name ∧
                  exec (.read h bank table index) s =
                    .next (passOn (.manage h (.read bank table index)) (respond h 4 .done data v))) ∧
              (bank = 1 →
                ∃ data, bytesOfQuads data = readRecord s.shadowBank name ∧
                  exec (.read h bank table index) s =
                    .next (passOn (.manage h (.read bank table index)) (respond h 4 .done data v))) ∧
              (bank ≠ 0 → bank ≠ 1 →
                exec (.read h bank table index) s =
                  .next (passOn (.manage h (.read bank table index)) (respond h 4 .badValue [] v))))) ∧
      (∀ record, writeLengthOk table record.length = true → FreshRequest h (.write table index record) s →
        (recordOf table index = none →
          exec (.write h table index record) s =
            .next (passOn (.manage h (.write table index record)) (respond h 5 .badTarget [] v))) ∧
          ∀ name, recordOf table index = some name →
            ((s.bks.pending.isSome = true →
                exec (.write h table index record) s =
                  .next (passOn (.manage h (.write table index record)) (respond h 5 .locked [] v))) ∧
              (s.bks.pending = none → writeRecord s.shadowBank name record = none →
                exec (.write h table index record) s =
                  .next (passOn (.manage h (.write table index record)) (respond h 5 .badValue [] v))) ∧
              ∀ b, s.bks.pending = none → writeRecord s.shadowBank name record = some b →
                ∃ w, exec (.write h table index record) s =
                    .next (passOn (.manage h (.write table index record)) (respond h 5 .done [] w)) ∧
                  w = v.setBks w.bks ∧ w.shadowBank = b ∧ w.activeBank = s.activeBank ∧
                  w.bks.active = s.bks.active ∧ w.bks.pending = none))) ∧
  ((∀ table index : Byte, recordOf table index = none ↔
      3 < table.toNat ∨ (table = 0 ∧ 5 < index.toNat) ∨ (table = 1 ∧ 1 < index.toNat) ∨
        (table = 2 ∧ 3 < index.toNat) ∨ (table = 3 ∧ 0 < index.toNat)) ∧
    (∀ l, recordOf 0 (BitVec.ofNat 8 (legIndex l)) = some (.leg l)) ∧
    (∀ x, recordOf 1 (BitVec.ofNat 8 (strobeIndex x)) = some (.strobe x)) ∧
    (∀ n, recordOf 2 (BitVec.ofNat 8 (chanIndex n)) = some (.prot n)) ∧ recordOf 3 0 = some .node) ∧
  (∀ b : Bank, (∀ l, readRecord b (.leg l) = encodeLegRecord (b.legs.get l)) ∧
    (∀ x, readRecord b (.strobe x) = encodeStrobeRecord (b.strobes.get x)) ∧
    (∀ n, readRecord b (.prot n) = encodeProtEntry (b.prot.get n)) ∧
    readRecord b .node = encodeNodeRecord b.node) ∧
  ∀ (b : Bank) (name : RecordName) (record : List Byte),
    (writeRecord b name record = none ↔
      match name with
      | .leg _ => decodeLegRecord record = none
      | .strobe _ => decodeStrobeRecord record = none
      | .prot _ => decodeProtEntry record = none
      | .node => decodeNodeRecord record = none) ∧
      ∀ c, writeRecord b name record = some c →
        (∀ other, other ≠ name → readRecord c other = readRecord b other) ∧
          match name with
          | .leg l =>
            decodeLegRecord record = some (c.legs.get l) ∧
              decodeLegRecord (readRecord c name) = decodeLegRecord record ∧
              c = { b with legs := b.legs.set l (c.legs.get l) }
          | .strobe x =>
            decodeStrobeRecord record = some (c.strobes.get x) ∧
              decodeStrobeRecord (readRecord c name) = decodeStrobeRecord record ∧
              c = { b with strobes := b.strobes.set x (c.strobes.get x) }
          | .prot n =>
            decodeProtEntry record = some (c.prot.get n) ∧
              decodeProtEntry (readRecord c name) = decodeProtEntry record ∧
              c = { b with prot := b.prot.set n (c.prot.get n) }
          | .node =>
            decodeNodeRecord record = some c.node ∧ decodeNodeRecord (readRecord c name) = decodeNodeRecord record ∧
              c = { b with node := c.node }

/-- COPY at an addressed node: LOCKED and nothing changed while a commit is pending; otherwise the shadow becomes equal
to the active bank, ACTIVE stays, and the status is DONE. After a swap the shadow is the bank that was active before
it. -/
def Obligations.CopyFillsTheShadow : Prop :=
  (∀ (h : ManageHead) (s v : State), FreshRequest h .copy s → s.ncu.state ≠ .unaddressed →
      v = s.setCiu { s.ciu with uRx := false } →
        (s.bks.pending.isSome = true →
          exec (.copy h) s = .next (passOn (.manage h .copy) (respond h 6 .locked [] v))) ∧
          (s.bks.pending = none →
            ∃ w, exec (.copy h) s = .next (passOn (.manage h .copy) (respond h 6 .done [] w)) ∧
              w = v.setBks w.bks ∧ w.shadowBank = s.activeBank ∧ w.activeBank = s.activeBank ∧
              w.bks.active = s.bks.active ∧ w.bks.pending = none)) ∧
    ∀ (form : CommitForm) (s : State), (swapBanks form s).shadowBank = s.activeBank

/-- CANCEL at an addressed node: a pending target is removed, both banks stay, and the status is DONE with that target
as data, no record but the response; with none pending the status is WRONG-STATE and nothing changes, as always in
STANDBY and HALTED. A retransmitted CANCEL is answered from the response store. -/
def Obligations.CancelRemovesThePendingCommit : Prop :=
  ∀ (h : ManageHead) (s v : State), s.ncu.state ≠ .unaddressed → v = s.setCiu { s.ciu with uRx := false } →
    (FreshRequest h .cancel s →
      (∀ g, s.bks.pending = some g →
        exec (.cancel h) s =
          .next (passOn (.manage h .cancel)
            (respond h 8 .done [quadOfHalves g 0] (v.setBks { s.bks with pending := none })))) ∧
        (s.bks.pending = none →
          exec (.cancel h) s = .next (passOn (.manage h .cancel) (respond h 8 .wrongState [] v)))) ∧
      (NodeConsistent s → (s.ncu.state = .standby ∨ s.ncu.state = .halted) → s.bks.pending = none) ∧
      ∀ a x, EndsAtU s → s.ciu.address = some a → (h.dest = 0 ∨ h.dest = a) → s.mgu.store = some x →
        x.seq = h.seq → x.code = 8 →
          exec (.cancel h) s =
            .next (passOn (.manage h .cancel) (report (.response x.seq x.code x.status x.data) v))

/-- A bank passes validation exactly when checks V1 to V7 hold: no nonzero address used twice among enabled legs and
strobes, every enabled leg addressed, no SINGLE leg clamping its lower switch, MAX-ON 0 or above MIN-ON,
GAP-WAITS-CONFIRM only with a CONFIRM-WINDOW, every ACTIVE TRIP-LEGS entry naming only enabled legs and at least one,
and every ACTIVE HALT-NODE entry LATCHED. Otherwise the reason, 1 to 7, is the first check that any record fails, and
the record named the first in the order LEG 0..5, STROBE 0..1, PROTECTION 0..3 that fails it (R132). -/
def Obligations.ValidationMakesTheSevenChecks : Prop :=
  (∀ b : Bank, validate b = none ↔
    (∀ l k, (b.legs.get l).mode.enabled = true → (b.legs.get k).mode.enabled = true → (b.legs.get l).address ≠ 0 →
        (b.legs.get l).address = (b.legs.get k).address → l = k) ∧
      (∀ x y, (b.strobes.get x).address ≠ 0 → (b.strobes.get x).address = (b.strobes.get y).address → x = y) ∧
      (∀ l x, (b.legs.get l).mode.enabled = true → (b.legs.get l).address ≠ 0 →
        (b.legs.get l).address ≠ (b.strobes.get x).address) ∧
      (∀ l, (b.legs.get l).mode.enabled = true →
        (b.legs.get l).address ≠ 0 ∧
          ((b.legs.get l).mode = .single → (b.legs.get l).safeState ≠ .clampLower) ∧
          ((b.legs.get l).maxOn = 0 ∨ (b.legs.get l).minOn.toNat < (b.legs.get l).maxOn.toNat) ∧
          ((b.legs.get l).gapWaitsConfirm = true → (b.legs.get l).confirmWindow ≠ 0)) ∧
      ∀ n, (b.prot.get n).use = .active →
        ((b.prot.get n).action = .tripLegs →
          (∃ l, (b.prot.get n).legs.get l = true) ∧
            ∀ l, (b.prot.get n).legs.get l = true → (b.legs.get l).mode.enabled = true) ∧
          ((b.prot.get n).action = .haltNode → (b.prot.get n).latch = .latched)) ∧
  ∀ (b : Bank) (reason : Byte) (name : RecordName),
    validate b = some (reason, name) ↔
      FailsCheck b reason.toNat name ∧
        (∀ other, other.place < name.place → ¬FailsCheck b reason.toNat other) ∧
        ∀ (v : Nat) (other : RecordName), v < reason.toNat → ¬FailsCheck b v other

/-- COMMIT in a node state that admits its form. While a commit is pending it is refused LOCKED. A target that is not 1
to 1,024 cycles ahead is refused BAD-VALUE. A shadow that fails validation gives INVALID with reason, table and index of
the first failing check. Otherwise a targeted COMMIT becomes pending, ACCEPTED with the target, and an IMMEDIATE one
swaps the banks at once and answers DONE with the new ACTIVE letter (R133 to R135, R186). -/
def Obligations.CommitsAreJudgedAndTaken : Prop :=
  ∀ (h : ManageHead) (x : Half) (s v : State), v = s.setCiu { s.ciu with uRx := false } →
    (FreshRequest h (.commitTargeted x) s → Operating s →
      (s.bks.pending.isSome = true →
        exec (.commitTargeted h x) s = .next (passOn (.manage h (.commitTargeted x)) (respond h 7 .locked [] v))) ∧
      (s.bks.pending = none →
        (((x - s.ctu.cycle).toNat = 0 ∨ 1024 < (x - s.ctu.cycle).toNat) →
          exec (.commitTargeted h x) s =
            .next (passOn (.manage h (.commitTargeted x)) (respond h 7 .badValue [] v))) ∧
        (1 ≤ (x - s.ctu.cycle).toNat → (x - s.ctu.cycle).toNat ≤ 1024 →
          (∀ reason name, validate s.shadowBank = some (reason, name) →
            exec (.commitTargeted h x) s =
              .next (passOn (.manage h (.commitTargeted x))
                (respond h 7 .invalid [datum reason name.codes.1 name.codes.2] v))) ∧
          (validate s.shadowBank = none →
            exec (.commitTargeted h x) s =
              .next (passOn (.manage h (.commitTargeted x))
                (respond h 7 .accepted [quadOfHalves x 0] (v.setBks { s.bks with pending := some x }))))))) ∧
    (FreshRequest h (.commitImmediate x) s → (s.ncu.state = .standby ∨ s.ncu.state = .halted) →
      (s.bks.pending.isSome = true →
        exec (.commitImmediate h x) s = .next (passOn (.manage h (.commitImmediate x)) (respond h 7 .locked [] v))) ∧
      (s.bks.pending = none →
        (∀ reason name, validate s.shadowBank = some (reason, name) →
          exec (.commitImmediate h x) s =
            .next (passOn (.manage h (.commitImmediate x))
              (respond h 7 .invalid [datum reason name.codes.1 name.codes.2] v))) ∧
        (validate s.shadowBank = none →
          exec (.commitImmediate h x) s =
            .next (passOn (.manage h (.commitImmediate x))
              (respond h 7 .done [datum (if s.bks.active = .a then 1 else 0) 0 0] (swapBanks .immediate v))))))

/-- A swap: the other bank is ACTIVE, both banks keep their contents, no commit is pending. Its steps in order: the
COMMIT-DONE record with FORM, the new ACTIVE and the cycle number; the legs, by number; the DISCARD of legs disabled and
strobes made unused; the monitors, brought into line, judged afresh, then the legs that wait; the channels, by number
(number orders: log 9). A leg that becomes DISABLED is OFF, LAST-OFF now if it was conducting; one that becomes enabled
has LAST-OFF now. COMPLEMENTARY to SINGLE ends LOWER and a gap toward it in OFF, opens a lower clamp, drops DEFERRED,
and its lower monitor is IDLE; SINGLE to COMPLEMENTARY drops DEFERRED alone. A switch that becomes monitored is QUIET,
one that is no longer is IDLE, but an open watch of a leg whose CONFIRM-WINDOW became 0 stays, in SYNCING, RUNNING and
HALTED (log 10, log 22); a watch that ends in success makes no EDGE record (log 11), and a lower monitor is IDLE before
its switch turns off (log 19). A changed entry abandons a qualification (GLITCH), ends a hold (RELEASE), and reads its
input afresh; in ACTIVE it trips anew if asserted and is IDLE if not; an unchanged HALT-NODE one qualifying, FAST at its
assertion (log 8, DEDUCED), forces the legs newly enabled. Unless halted by it, the schedule loses those entries and no
others; pulses go on. The commit check swaps when a pending target is reached or passed, and changes nothing otherwise
(R68, R86, R102 to R104, R136, R139 to R143). -/
def Obligations.SwapsExchangeTheBanks : Prop :=
  (∀ (form : CommitForm) (s t : State), t = swapBanks form s →
      t.bks = { s.bks with active := if s.bks.active = .a then .b else .a, pending := none } ∧
        t.activeBank = s.shadowBank ∧ SameOutside s t ∧
        (∀ l, (s.legEnabled l = true → (s.shadowBank.legs.get l).mode.enabled = false →
            (t.leg l).cond = .off ∧
              (t.leg l).lastOff =
                (if s.commanded l .upper = true ∨ s.commanded l .lower = true then s.now else (s.leg l).lastOff)) ∧
          (s.legEnabled l = false → (s.shadowBank.legs.get l).mode.enabled = true → (t.leg l).lastOff = s.now)) ∧
        (t.ncu.state = .halted ∨
          t.esu.pulses = s.esu.pulses ∧
            t.esu.schedule =
              s.esu.schedule.filter fun e =>
                match e.work with
                | .leg l _ => !(s.legEnabled l && !(s.shadowBank.legs.get l).mode.enabled)
                | .strobe x =>
                  !(decide ((s.activeBank.strobes.get x).address ≠ 0) &&
                    decide ((s.shadowBank.strobes.get x).address = 0)))) ∧
  (∀ s : State,
      (s.bks.pending = none → commitCheck s = s) ∧
        ∀ g, s.bks.pending = some g →
          ((s.ctu.cycle - g).toNat ≤ 32767 → commitCheck s = swapBanks .targeted s) ∧
            (32768 ≤ (s.ctu.cycle - g).toNat → commitCheck s = s)) ∧
  (∀ (form : CommitForm) (old : Bank) (s a b c d : State), old = s.activeBank →
    a = s.setBks { s.bks with active := if s.bks.active = .a then .b else .a, pending := none } →
    b = allLegs.foldl (fun x l => swapLeg old l x) (report (.commitDone form a.bks.active s.ctu.cycle) a) →
    c = discardEntries (swapKeeps old s.shadowBank) .swap b →
    d = allLegs.foldl (fun x l => judgeLeg l x)
        (allSwitches.foldl (fun x k => observe k.1 k.2 false x)
          (allSwitches.foldl (fun x k => alignMonitor old k.1 k.2 x) c)) →
      swapBanks form s =
        allChans.foldl
          (fun x n =>
            if (old.prot.get n).use ≠ (x.protParams n).use ∨ (old.prot.get n).legs ≠ (x.protParams n).legs ∨
                (old.prot.get n).action ≠ (x.protParams n).action ∨
                (old.prot.get n).assertLevel ≠ (x.protParams n).assertLevel then
              swapChangedEntry n x
            else swapUnchangedEntry old n x) d) ∧
  (∀ (old : Bank) (l : LegId) (s t : State), t = swapLeg old l s →
      (((old.legs.get l).mode = (s.legParams l).mode) → t = s) ∧
        ((old.legs.get l).mode = .disabled → (s.legParams l).mode ≠ .disabled →
          t = s.setLeg l { s.leg l with lastOff := s.now, rested := false }) ∧
        ((old.legs.get l).mode ≠ .disabled → (s.legParams l).mode = .disabled →
          SameButLegs s t ∧ (∀ k, k ≠ l → t.leg k = s.leg k ∧ ∀ sw, t.monitor k sw = s.monitor k sw) ∧
            t.lge.counters = s.lge.counters ∧
            t.leg l =
              (if s.commanded l .upper = true ∨ s.commanded l .lower = true then
                { cond := .off, lastOff := s.now, rested := false }
              else { s.leg l with cond := .off })) ∧
        ((old.legs.get l).mode = .single → (s.legParams l).mode = .complementary →
          t = s.setLeg l { s.leg l with
              cond :=
                match (s.leg l).cond with
                | .on side since minEnd maxEnd _ => .on side since minEnd maxEnd none
                | other => other }) ∧
        ((old.legs.get l).mode = .complementary → (s.legParams l).mode = .single →
          t = (s.setMonitor l .lower .idle).setLeg l (t.leg l) ∧
            (∀ a m e f, (s.leg l).cond = .on .lower a m e f →
              t.leg l = { cond := .off, lastOff := s.now, rested := false }) ∧
            (∀ a m e f, (s.leg l).cond = .on .upper a m e f →
              t.leg l = { s.leg l with cond := .on .upper a m e none }) ∧
            (∀ e r, (s.leg l).cond = .gap .lower e r → t.leg l = { s.leg l with cond := .off }) ∧
            (∀ cs p, (s.leg l).cond = .safe cs p (some .lower) →
              (t.leg l).cond = .safe cs .opened (some .lower) ∧
                (t.leg l).lastOff = if p = .clamped then s.now else (s.leg l).lastOff) ∧
            (((s.leg l).cond = .off ∨ (∃ h, (s.leg l).cond = .heldOff h) ∨ (∃ e r, (s.leg l).cond = .gap .upper e r) ∨
                ∃ cs p k, (s.leg l).cond = .safe cs p k ∧ k ≠ some .lower) → t.leg l = s.leg l))) ∧
  (∀ (old : Bank) (l : LegId) (sw : Switch) (s : State),
      ((s.ncu.state = .unaddressed ∨ s.ncu.state = .standby) → alignMonitor old l sw s = s) ∧
        (Operating s ∨ s.ncu.state = .halted →
          (¬MonitoredSide (s.legParams l).mode sw → alignMonitor old l sw s = s.setMonitor l sw .idle) ∧
            (MonitoredSide (s.legParams l).mode sw →
              ((s.legParams l).confirmWindow ≠ 0 →
                ((MonitoredSide (old.legs.get l).mode sw ∧ (old.legs.get l).confirmWindow ≠ 0) →
                  alignMonitor old l sw s = s) ∧
                  (¬(MonitoredSide (old.legs.get l).mode sw ∧ (old.legs.get l).confirmWindow ≠ 0) →
                    alignMonitor old l sw s = s.setMonitor l sw .quiet)) ∧
                ((s.legParams l).confirmWindow = 0 →
                  ((∃ e c d, s.monitor l sw = .watching e c d) → alignMonitor old l sw s = s) ∧
                    ((∀ e c d, s.monitor l sw ≠ .watching e c d) →
                      alignMonitor old l sw s = s.setMonitor l sw .idle))))) ∧
  (∀ (n : ChanId) (s : State),
      (s.channel n = .idle → swapChangedEntry n s = if s.faultAsserted n = true then takeAssertion n s else s) ∧
        (∀ d b forced, s.channel n = .qualifying d b forced →
          swapChangedEntry n s =
            if s.faultAsserted n = true then takeAssertion n (glitch n .entryChanged forced s)
            else glitch n .entryChanged forced s) ∧
        (∀ d, s.channel n = .holding d →
          swapChangedEntry n s =
            if s.faultAsserted n = true then takeAssertion n (releaseChannel n .entryChanged s)
            else releaseChannel n .entryChanged s) ∧
        (s.channel n = .active →
          (s.faultAsserted n = false → swapChangedEntry n s = s.setChannel n .idle) ∧
            (s.faultAsserted n = true →
              ∀ v u, v = (match (s.protParams n).action with
                  | .tripLegs => (s.protParams n).legs
                  | .haltNode => s.enabledLegs) →
                u = report (.trip n (s.protParams n).action .entryChanged v s.now) s →
                  (((s.protParams n).action = .tripLegs ∨ s.ncu.state = .unaddressed) →
                    swapChangedEntry n s =
                      ((allLegs.filter fun l => v.get l).foldl (fun x l => addCause l (.fi n) false x) u).countProt
                        fun k => { k with trips := satInc k.trips }) ∧
                    ((s.protParams n).action = .haltNode → s.ncu.state ≠ .unaddressed →
                      swapChangedEntry n s =
                        (haltOrder (.fault n) u).countProt fun k => { k with trips := satInc k.trips })))) ∧
  ∀ (old : Bank) (n : ChanId) (s : State),
    (∀ d forced joined, s.channel n = .qualifying d true forced → (s.protParams n).action = .haltNode →
        (∀ l, joined.get l = (forced.get l || (s.legEnabled l && !(old.legs.get l).mode.enabled))) →
          swapUnchangedEntry old n s =
            (allLegs.filter fun l => s.legEnabled l && !(old.legs.get l).mode.enabled).foldl
              (fun x l => forceLeg n l x) (s.setChannel n (.qualifying d true joined))) ∧
      (((∀ d forced, s.channel n ≠ .qualifying d true forced) ∨ (s.protParams n).action = .tripLegs) →
        swapUnchangedEntry old n s = s)

/-- ARM in STANDBY: refused CAUSE-PRESENT with the SAFE legs, nothing changed, while a leg is in SAFE; otherwise DONE,
the node is SYNCING, the lock stage NONE, misses 0, tolerance and MISS-LIMIT loaded, no leg changed, and, where no
disagreeing input has DISAGREE-FILTER 0, each monitored switch QUIET, or FILTERING when its input disagrees (R115,
R187). DISARM in SYNCING or RUNNING: DONE, the node is in STANDBY, its records are DISCARD with REASON DISARM if the
schedule held entries, CANCELLED with REASON DISARM if a commit was pending, and then the response, the lock stage NONE,
schedule empty, strobes low, no commit pending, monitors IDLE; a conducting or waiting leg is OFF, a SAFE leg OPEN with
its causes, a HELD-OFF leg unchanged, and the fault channels are unchanged (R117). -/
def Obligations.ArmAndDisarmMoveTheNode : Prop :=
  ∀ (h : ManageHead) (s v : State), v = s.setCiu { s.ciu with uRx := false } → NodeConsistent s →
    (FreshRequest h .arm s → s.ncu.state = .standby →
      ((∃ l, (s.leg l).cond.isSafe = true) →
        exec (.arm h) s = .next (passOn (.manage h .arm) (respond h 9 .causePresent [datum (0#2 ++ s.safeLegs.bits) 0 0] v))) ∧
      ((∀ l, (s.leg l).cond.isSafe = false) →
        (∀ l sw, s.feedbackOn l sw = s.commanded l sw ∨ (s.legParams l).disagreeFilter ≠ 0) →
          ∃ w, exec (.arm h) s = .next (passOn (.manage h .arm) (respond h 9 .done [] w)) ∧
            w = ((v.setNcu { state := .syncing, causes := HaltSet.empty }).setCtu
                { s.ctu with
                  lock := .none, misses := 0, tolerance := s.nodeParams.syncTolerance
                  missLimit := s.nodeParams.missLimit }).setFbm { s.fbm with monitors := w.fbm.monitors } ∧
            ∀ l sw, w.monitor l sw =
              if (s.legParams l).confirmWindow = 0 ∨ (s.legParams l).mode = .disabled ∨
                  ((s.legParams l).mode = .single ∧ sw = .lower) then .idle
              else if s.feedbackOn l sw = s.commanded l sw then .quiet
              else .filtering (s.now + (s.legParams l).disagreeFilter.setWidth 32))) ∧
    (FreshRequest h .disarm s → Operating s →
      ∃ w, exec (.disarm h) s = .next (passOn (.manage h .disarm) (respond h 10 .done [] w)) ∧
        SameOutside v w ∧ w.ncu = { state := .standby, causes := HaltSet.empty } ∧
        w.ctu = { s.ctu with lock := .none } ∧ w.esu.schedule = [] ∧ (∀ x, w.esu.pulses.get x = none) ∧
        w.bks = { s.bks with pending := none } ∧ w.pru = s.pru ∧ w.lge.counters = s.lge.counters ∧
        (∀ l sw, w.monitor l sw = .idle) ∧ (∀ d, d = discardEntries (fun _ => false) .disarm v →
          w.esu.counters = d.esu.counters ∧
            (s.bks.pending = none → w.rpu = d.rpu ∧ w.fbm.edgeCounts = d.fbm.edgeCounts) ∧
            ∀ g, s.bks.pending = some g →
              w.rpu = (report (.cancelled .disarm g s.ctu.cycle) d).rpu ∧
                w.fbm.edgeCounts = (report (.cancelled .disarm g s.ctu.cycle) d).fbm.edgeCounts) ∧
        ∀ l, (∀ sd a m d f, (s.leg l).cond = .on sd a m d f →
            w.leg l = { cond := .off, lastOff := s.now, rested := false }) ∧
          (∀ p e r, (s.leg l).cond = .gap p e r → w.leg l = { s.leg l with cond := .off }) ∧
          (∀ cs p k, (s.leg l).cond = .safe cs p k → (w.leg l).cond = .safe cs .opened k) ∧
          ((s.leg l).cond = .off ∨ (∃ held, (s.leg l).cond = .heldOff held) → w.leg l = s.leg l))

/-- CLEAR at an addressed node: a LEGS byte that names a leg outside 0..5 is refused BAD-VALUE. Otherwise each named
SAFE leg keeps NODE-HALT and each FIn whose channel is not quiet, and loses its other causes; one left with none leaves
SAFE with LAST-OFF now; no other leg changes. CAUSE-PRESENT if a named leg is still in SAFE, else DONE, with both sets
as data (R106, R107, R188). RESUME in HALTED: CAUSE-PRESENT with the SAFE legs and the causes not removable, nothing
changed, while a FAULT-n of a channel that is not quiet is held; otherwise DONE, the node is in STANDBY with no cause,
the monitors IDLE, and every SAFE leg OPEN without NODE-HALT, or out of SAFE when that was its last cause (R122,
R187). -/
def Obligations.ClearAndResumeLiftCauses : Prop :=
  ∀ (h : ManageHead) (s v : State), v = s.setCiu { s.ciu with uRx := false } →
    (∀ legs : Byte, FreshRequest h (.clear legs) s → s.ncu.state ≠ .unaddressed →
      (64 ≤ legs.toNat →
        exec (.clear h legs) s = .next (passOn (.manage h (.clear legs)) (respond h 11 .badValue [] v))) ∧
      (legs.toNat < 64 →
        ∃ (w : State) (cleared still : Byte) (status : Status),
          exec (.clear h legs) s =
              .next (passOn (.manage h (.clear legs)) (respond h 11 status [datum cleared still 0] w)) ∧
            (status = if still = 0 then .done else .causePresent) ∧
            (∀ i : Nat, 6 ≤ i → cleared.getLsbD i = false ∧ still.getLsbD i = false) ∧
            SameButLegs v w ∧ w.lge.counters = s.lge.counters ∧ (∀ l, MonitorsFollow l s w) ∧
            ∀ l,
              still.getLsbD (legIndex l) = (legs.getLsbD (legIndex l) && (w.leg l).cond.isSafe) ∧
                cleared.getLsbD (legIndex l) =
                  (legs.getLsbD (legIndex l) && (s.leg l).cond.isSafe && !(w.leg l).cond.isSafe) ∧
                ((legs.getLsbD (legIndex l) = false ∨ (s.leg l).cond.isSafe = false) → w.leg l = s.leg l) ∧
                ∀ cs p k, legs.getLsbD (legIndex l) = true → (s.leg l).cond = .safe cs p k →
                  ∀ left : Causes,
                    (∀ n, left.fi.get n =
                      (cs.fi.get n && !(decide (s.channel n = .idle) && !s.faultAsserted n))) →
                      left.confirm = false → left.overlong = false → left.nodeHalt = cs.nodeHalt →
                        (left.isEmpty = false → w.leg l = { s.leg l with cond := .safe left p k }) ∧
                          (left.isEmpty = true →
                            w.leg l = { cond := heldOrOff (standingForces l s), lastOff := s.now, rested := false }))) ∧
    (FreshRequest h .resume s → s.ncu.state = .halted →
      ∀ kept : HaltSet, kept.linkLoss = false → kept.topology = false → kept.confirm = false →
        (∀ n, kept.fault.get n =
          (s.ncu.causes.fault.get n && !(decide (s.channel n = .idle) && !s.faultAsserted n))) →
          (kept.isEmpty = false →
            exec (.resume h) s =
              .next (passOn (.manage h .resume)
                (respond h 12 .causePresent [datum (0#2 ++ s.safeLegs.bits) (0#1 ++ kept.bits) 0] v))) ∧
          (kept.isEmpty = true →
            ∃ w, exec (.resume h) s =
                .next (passOn (.manage h .resume) (respond h 12 .done [datum (0#2 ++ w.safeLegs.bits) 0 0] w)) ∧
              SameButLegs (v.setNcu { state := .standby, causes := HaltSet.empty }) w ∧
              w.lge.counters = s.lge.counters ∧ (∀ l sw, w.monitor l sw = .idle) ∧
              ∀ l, ((s.leg l).cond.isSafe = false → w.leg l = s.leg l) ∧
                ∀ cs p k, (s.leg l).cond = .safe cs p k →
                  (cs.nodeHalt = false ∨ (cs.remove .nodeHalt).isEmpty = false →
                    (w.leg l).cond = .safe (cs.remove .nodeHalt) .opened k ∧
                      (w.leg l).lastOff = (if p = .clamped then s.now else (s.leg l).lastOff)) ∧
                    (cs.nodeHalt = true → (cs.remove .nodeHalt).isEmpty = true →
                      w.leg l = { cond := heldOrOff (standingForces l s), lastOff := s.now, rested := false })))

/-- FLUSH at an addressed node: the schedule is empty, both strobes go on, and the response DONE carries the number of
entries removed, behind the DISCARD record of reason FLUSH when there were any (R66, R189). RESTART at an addressed
node: STANDBY with no halt cause, every leg OFF with LAST-OFF now, schedule, monitors, channels, report queue, every
counter and the snapshot at their reset values, the CTU unlocked with its values in force loaded, banks and ACTIVE,
address, cycle number, buffers and partners kept, the response DONE the first record, a pending commit then cancelled
with a CANCELLED record; then each channel whose input reads asserted takes an assertion, in number order (log 9): it is
QUALIFYING where its QUALIFY is above 0, the enabled legs of its affected set HELD-OFF by it where FAST, and ACTIVE
where QUALIFY is 0, its TRIP record behind those records and its legs in SAFE with phase OPEN, or the node HALTED by it
from STANDBY; each channel whose input reads deasserted is IDLE (R20, R48, R71, R88, R109, R124, R162, R190). -/
def Obligations.FlushAndRestartEmptyTheNode : Prop :=
  ∀ (h : ManageHead) (s v : State), v = s.setCiu { s.ciu with uRx := false } → s.ncu.state ≠ .unaddressed →
    (FreshRequest h .flush s →
      ∃ w, exec (.flush h) s =
          .next (passOn (.manage h .flush) (respond h 13 .done [datum (BitVec.ofNat 8 s.esu.schedule.length) 0 0] w)) ∧
        w = discardEntries (fun _ => false) .flush v ∧ w.esu.schedule = [] ∧ w.esu.pulses = s.esu.pulses ∧
        w.lge = s.lge ∧ (s.esu.schedule = [] → w = v)) ∧
    (FreshRequest h .restart s →
      ∀ w z : State,
        w = { v with
          ctu := { s.ctu with
            lock := .none, misses := 0, tolerance := s.nodeParams.syncTolerance, missLimit := s.nodeParams.missLimit
            counters := TimingCounters.zero }
          esu := Esu.initial
          lge :=
            { legs := PerLeg.tabulate fun _ => { cond := .off, lastOff := s.now, rested := false }
              counters := LegCounters.zero }
          fbm := Fbm.initial
          pru := Pru.initial
          rpu := Rpu.initial
          mgu := { s.mgu with snapshot := none }
          ncu := { state := .standby, causes := HaltSet.empty }
          ciu := { v.ciu with counters := LinkCounters.zero } } →
          (s.bks.pending = none → z = respond h 14 .done [] w) →
            (∀ g, s.bks.pending = some g →
              z = report (.cancelled .restart g s.ctu.cycle)
                ((respond h 14 .done [] w).setBks { s.bks with pending := none })) →
              ((∀ n, s.faultAsserted n = false) → exec (.restart h) s = .next (passOn (.manage h .restart) z)) ∧
                ∃ t, exec (.restart h) s = .next (passOn (.manage h .restart) t) ∧
                  t = allChans.foldl (fun x n => if s.faultAsserted n = true then takeAssertion n x else x) z ∧
                  (∀ n, (s.faultAsserted n = false → t.channel n = .idle) ∧
                    (s.faultAsserted n = true →
                      ((s.protParams n).qualify ≠ 0 →
                        ∃ forced, (∀ l, forced.get l = true ↔ FastForces n l s) ∧
                          t.channel n =
                            .qualifying (s.now + (s.protParams n).qualify.setWidth 32) (s.protParams n).fast forced) ∧
                        ((s.protParams n).qualify = 0 → t.channel n = .active))) ∧
                  ((∀ n, s.faultAsserted n = true → (s.protParams n).qualify ≠ 0) →
                    t.rpu = z.rpu ∧ t.ncu = w.ncu ∧
                      ∀ l,
                        ((s.legEnabled l = false ∨ ∀ n, s.faultAsserted n = true → ¬FastForces n l s) →
                          t.leg l = { cond := .off, lastOff := s.now, rested := false }) ∧
                        (s.legEnabled l = true → (∃ n, s.faultAsserted n = true ∧ FastForces n l s) →
                          ∃ held, (∀ n, held.get n = true ↔ (s.faultAsserted n = true ∧ FastForces n l s)) ∧
                            t.leg l = { cond := .heldOff held, lastOff := s.now, rested := false })) ∧
                  ∀ n, s.faultAsserted n = true → (∀ k, k ≠ n → s.faultAsserted k = false) →
                    (s.protParams n).qualify = 0 →
                      ((s.protParams n).action = .tripLegs →
                        t.rpu = (report (.trip n .tripLegs .qualified (s.protParams n).legs s.now) z).rpu ∧
                          t.ncu = w.ncu ∧
                          ∀ l,
                            ((s.legEnabled l = false ∨ (s.protParams n).legs.get l = false) →
                              t.leg l = { cond := .off, lastOff := s.now, rested := false }) ∧
                            (s.legEnabled l = true → (s.protParams n).legs.get l = true →
                              ∃ k, t.leg l =
                                { cond := .safe (Causes.empty.add (.fi n)) .opened k
                                  lastOff := s.now, rested := false })) ∧
                        ((s.protParams n).action = .haltNode →
                          t = (haltOrder (.fault n)
                              (report (.trip n .haltNode .qualified s.enabledLegs s.now) z)).setPru t.pru))
end

