-- ==== Sys2Proof/Laws/State.lean ====
section
/-! SUPPORT. One lemma per field per update of the state: what each setter leaves and what it sets. -/

namespace Sys2Proof.Machine

/-! ### setCtu -/

@[simp] theorem State.ctu_setCtu (x : Ctu) (s : State) : (s.setCtu x).ctu = x := rfl
@[simp] theorem State.esu_setCtu (x : Ctu) (s : State) : (s.setCtu x).esu = s.esu := rfl
@[simp] theorem State.lge_setCtu (x : Ctu) (s : State) : (s.setCtu x).lge = s.lge := rfl
@[simp] theorem State.fbm_setCtu (x : Ctu) (s : State) : (s.setCtu x).fbm = s.fbm := rfl
@[simp] theorem State.pru_setCtu (x : Ctu) (s : State) : (s.setCtu x).pru = s.pru := rfl
@[simp] theorem State.bks_setCtu (x : Ctu) (s : State) : (s.setCtu x).bks = s.bks := rfl
@[simp] theorem State.rpu_setCtu (x : Ctu) (s : State) : (s.setCtu x).rpu = s.rpu := rfl
@[simp] theorem State.mgu_setCtu (x : Ctu) (s : State) : (s.setCtu x).mgu = s.mgu := rfl
@[simp] theorem State.ncu_setCtu (x : Ctu) (s : State) : (s.setCtu x).ncu = s.ncu := rfl
@[simp] theorem State.ciu_setCtu (x : Ctu) (s : State) : (s.setCtu x).ciu = s.ciu := rfl
@[simp] theorem State.pins_setCtu (x : Ctu) (s : State) : (s.setCtu x).pins = s.pins := rfl
@[simp] theorem State.pending_setCtu (x : Ctu) (s : State) : (s.setCtu x).pending = s.pending := rfl
@[simp] theorem State.freeIndex_setCtu (x : Ctu) (s : State) : (s.setCtu x).freeIndex = s.freeIndex := rfl

/-! ### setEsu -/

@[simp] theorem State.ctu_setEsu (x : Esu) (s : State) : (s.setEsu x).ctu = s.ctu := rfl
@[simp] theorem State.esu_setEsu (x : Esu) (s : State) : (s.setEsu x).esu = x := rfl
@[simp] theorem State.lge_setEsu (x : Esu) (s : State) : (s.setEsu x).lge = s.lge := rfl
@[simp] theorem State.fbm_setEsu (x : Esu) (s : State) : (s.setEsu x).fbm = s.fbm := rfl
@[simp] theorem State.pru_setEsu (x : Esu) (s : State) : (s.setEsu x).pru = s.pru := rfl
@[simp] theorem State.bks_setEsu (x : Esu) (s : State) : (s.setEsu x).bks = s.bks := rfl
@[simp] theorem State.rpu_setEsu (x : Esu) (s : State) : (s.setEsu x).rpu = s.rpu := rfl
@[simp] theorem State.mgu_setEsu (x : Esu) (s : State) : (s.setEsu x).mgu = s.mgu := rfl
@[simp] theorem State.ncu_setEsu (x : Esu) (s : State) : (s.setEsu x).ncu = s.ncu := rfl
@[simp] theorem State.ciu_setEsu (x : Esu) (s : State) : (s.setEsu x).ciu = s.ciu := rfl
@[simp] theorem State.pins_setEsu (x : Esu) (s : State) : (s.setEsu x).pins = s.pins := rfl
@[simp] theorem State.pending_setEsu (x : Esu) (s : State) : (s.setEsu x).pending = s.pending := rfl
@[simp] theorem State.freeIndex_setEsu (x : Esu) (s : State) : (s.setEsu x).freeIndex = s.freeIndex := rfl

/-! ### setLge -/

@[simp] theorem State.ctu_setLge (x : Lge) (s : State) : (s.setLge x).ctu = s.ctu := rfl
@[simp] theorem State.esu_setLge (x : Lge) (s : State) : (s.setLge x).esu = s.esu := rfl
@[simp] theorem State.lge_setLge (x : Lge) (s : State) : (s.setLge x).lge = x := rfl
@[simp] theorem State.fbm_setLge (x : Lge) (s : State) : (s.setLge x).fbm = s.fbm := rfl
@[simp] theorem State.pru_setLge (x : Lge) (s : State) : (s.setLge x).pru = s.pru := rfl
@[simp] theorem State.bks_setLge (x : Lge) (s : State) : (s.setLge x).bks = s.bks := rfl
@[simp] theorem State.rpu_setLge (x : Lge) (s : State) : (s.setLge x).rpu = s.rpu := rfl
@[simp] theorem State.mgu_setLge (x : Lge) (s : State) : (s.setLge x).mgu = s.mgu := rfl
@[simp] theorem State.ncu_setLge (x : Lge) (s : State) : (s.setLge x).ncu = s.ncu := rfl
@[simp] theorem State.ciu_setLge (x : Lge) (s : State) : (s.setLge x).ciu = s.ciu := rfl
@[simp] theorem State.pins_setLge (x : Lge) (s : State) : (s.setLge x).pins = s.pins := rfl
@[simp] theorem State.pending_setLge (x : Lge) (s : State) : (s.setLge x).pending = s.pending := rfl
@[simp] theorem State.freeIndex_setLge (x : Lge) (s : State) : (s.setLge x).freeIndex = s.freeIndex := rfl

/-! ### setFbm -/

@[simp] theorem State.ctu_setFbm (x : Fbm) (s : State) : (s.setFbm x).ctu = s.ctu := rfl
@[simp] theorem State.esu_setFbm (x : Fbm) (s : State) : (s.setFbm x).esu = s.esu := rfl
@[simp] theorem State.lge_setFbm (x : Fbm) (s : State) : (s.setFbm x).lge = s.lge := rfl
@[simp] theorem State.fbm_setFbm (x : Fbm) (s : State) : (s.setFbm x).fbm = x := rfl
@[simp] theorem State.pru_setFbm (x : Fbm) (s : State) : (s.setFbm x).pru = s.pru := rfl
@[simp] theorem State.bks_setFbm (x : Fbm) (s : State) : (s.setFbm x).bks = s.bks := rfl
@[simp] theorem State.rpu_setFbm (x : Fbm) (s : State) : (s.setFbm x).rpu = s.rpu := rfl
@[simp] theorem State.mgu_setFbm (x : Fbm) (s : State) : (s.setFbm x).mgu = s.mgu := rfl
@[simp] theorem State.ncu_setFbm (x : Fbm) (s : State) : (s.setFbm x).ncu = s.ncu := rfl
@[simp] theorem State.ciu_setFbm (x : Fbm) (s : State) : (s.setFbm x).ciu = s.ciu := rfl
@[simp] theorem State.pins_setFbm (x : Fbm) (s : State) : (s.setFbm x).pins = s.pins := rfl
@[simp] theorem State.pending_setFbm (x : Fbm) (s : State) : (s.setFbm x).pending = s.pending := rfl
@[simp] theorem State.freeIndex_setFbm (x : Fbm) (s : State) : (s.setFbm x).freeIndex = s.freeIndex := rfl

/-! ### setPru -/

@[simp] theorem State.ctu_setPru (x : Pru) (s : State) : (s.setPru x).ctu = s.ctu := rfl
@[simp] theorem State.esu_setPru (x : Pru) (s : State) : (s.setPru x).esu = s.esu := rfl
@[simp] theorem State.lge_setPru (x : Pru) (s : State) : (s.setPru x).lge = s.lge := rfl
@[simp] theorem State.fbm_setPru (x : Pru) (s : State) : (s.setPru x).fbm = s.fbm := rfl
@[simp] theorem State.pru_setPru (x : Pru) (s : State) : (s.setPru x).pru = x := rfl
@[simp] theorem State.bks_setPru (x : Pru) (s : State) : (s.setPru x).bks = s.bks := rfl
@[simp] theorem State.rpu_setPru (x : Pru) (s : State) : (s.setPru x).rpu = s.rpu := rfl
@[simp] theorem State.mgu_setPru (x : Pru) (s : State) : (s.setPru x).mgu = s.mgu := rfl
@[simp] theorem State.ncu_setPru (x : Pru) (s : State) : (s.setPru x).ncu = s.ncu := rfl
@[simp] theorem State.ciu_setPru (x : Pru) (s : State) : (s.setPru x).ciu = s.ciu := rfl
@[simp] theorem State.pins_setPru (x : Pru) (s : State) : (s.setPru x).pins = s.pins := rfl
@[simp] theorem State.pending_setPru (x : Pru) (s : State) : (s.setPru x).pending = s.pending := rfl
@[simp] theorem State.freeIndex_setPru (x : Pru) (s : State) : (s.setPru x).freeIndex = s.freeIndex := rfl

/-! ### setBks -/

@[simp] theorem State.ctu_setBks (x : Bks) (s : State) : (s.setBks x).ctu = s.ctu := rfl
@[simp] theorem State.esu_setBks (x : Bks) (s : State) : (s.setBks x).esu = s.esu := rfl
@[simp] theorem State.lge_setBks (x : Bks) (s : State) : (s.setBks x).lge = s.lge := rfl
@[simp] theorem State.fbm_setBks (x : Bks) (s : State) : (s.setBks x).fbm = s.fbm := rfl
@[simp] theorem State.pru_setBks (x : Bks) (s : State) : (s.setBks x).pru = s.pru := rfl
@[simp] theorem State.bks_setBks (x : Bks) (s : State) : (s.setBks x).bks = x := rfl
@[simp] theorem State.rpu_setBks (x : Bks) (s : State) : (s.setBks x).rpu = s.rpu := rfl
@[simp] theorem State.mgu_setBks (x : Bks) (s : State) : (s.setBks x).mgu = s.mgu := rfl
@[simp] theorem State.ncu_setBks (x : Bks) (s : State) : (s.setBks x).ncu = s.ncu := rfl
@[simp] theorem State.ciu_setBks (x : Bks) (s : State) : (s.setBks x).ciu = s.ciu := rfl
@[simp] theorem State.pins_setBks (x : Bks) (s : State) : (s.setBks x).pins = s.pins := rfl
@[simp] theorem State.pending_setBks (x : Bks) (s : State) : (s.setBks x).pending = s.pending := rfl
@[simp] theorem State.freeIndex_setBks (x : Bks) (s : State) : (s.setBks x).freeIndex = s.freeIndex := rfl

/-! ### setRpu -/

@[simp] theorem State.ctu_setRpu (x : Rpu) (s : State) : (s.setRpu x).ctu = s.ctu := rfl
@[simp] theorem State.esu_setRpu (x : Rpu) (s : State) : (s.setRpu x).esu = s.esu := rfl
@[simp] theorem State.lge_setRpu (x : Rpu) (s : State) : (s.setRpu x).lge = s.lge := rfl
@[simp] theorem State.fbm_setRpu (x : Rpu) (s : State) : (s.setRpu x).fbm = s.fbm := rfl
@[simp] theorem State.pru_setRpu (x : Rpu) (s : State) : (s.setRpu x).pru = s.pru := rfl
@[simp] theorem State.bks_setRpu (x : Rpu) (s : State) : (s.setRpu x).bks = s.bks := rfl
@[simp] theorem State.rpu_setRpu (x : Rpu) (s : State) : (s.setRpu x).rpu = x := rfl
@[simp] theorem State.mgu_setRpu (x : Rpu) (s : State) : (s.setRpu x).mgu = s.mgu := rfl
@[simp] theorem State.ncu_setRpu (x : Rpu) (s : State) : (s.setRpu x).ncu = s.ncu := rfl
@[simp] theorem State.ciu_setRpu (x : Rpu) (s : State) : (s.setRpu x).ciu = s.ciu := rfl
@[simp] theorem State.pins_setRpu (x : Rpu) (s : State) : (s.setRpu x).pins = s.pins := rfl
@[simp] theorem State.pending_setRpu (x : Rpu) (s : State) : (s.setRpu x).pending = s.pending := rfl
@[simp] theorem State.freeIndex_setRpu (x : Rpu) (s : State) : (s.setRpu x).freeIndex = s.freeIndex := rfl

/-! ### setMgu -/

@[simp] theorem State.ctu_setMgu (x : Mgu) (s : State) : (s.setMgu x).ctu = s.ctu := rfl
@[simp] theorem State.esu_setMgu (x : Mgu) (s : State) : (s.setMgu x).esu = s.esu := rfl
@[simp] theorem State.lge_setMgu (x : Mgu) (s : State) : (s.setMgu x).lge = s.lge := rfl
@[simp] theorem State.fbm_setMgu (x : Mgu) (s : State) : (s.setMgu x).fbm = s.fbm := rfl
@[simp] theorem State.pru_setMgu (x : Mgu) (s : State) : (s.setMgu x).pru = s.pru := rfl
@[simp] theorem State.bks_setMgu (x : Mgu) (s : State) : (s.setMgu x).bks = s.bks := rfl
@[simp] theorem State.rpu_setMgu (x : Mgu) (s : State) : (s.setMgu x).rpu = s.rpu := rfl
@[simp] theorem State.mgu_setMgu (x : Mgu) (s : State) : (s.setMgu x).mgu = x := rfl
@[simp] theorem State.ncu_setMgu (x : Mgu) (s : State) : (s.setMgu x).ncu = s.ncu := rfl
@[simp] theorem State.ciu_setMgu (x : Mgu) (s : State) : (s.setMgu x).ciu = s.ciu := rfl
@[simp] theorem State.pins_setMgu (x : Mgu) (s : State) : (s.setMgu x).pins = s.pins := rfl
@[simp] theorem State.pending_setMgu (x : Mgu) (s : State) : (s.setMgu x).pending = s.pending := rfl
@[simp] theorem State.freeIndex_setMgu (x : Mgu) (s : State) : (s.setMgu x).freeIndex = s.freeIndex := rfl

/-! ### setNcu -/

@[simp] theorem State.ctu_setNcu (x : Ncu) (s : State) : (s.setNcu x).ctu = s.ctu := rfl
@[simp] theorem State.esu_setNcu (x : Ncu) (s : State) : (s.setNcu x).esu = s.esu := rfl
@[simp] theorem State.lge_setNcu (x : Ncu) (s : State) : (s.setNcu x).lge = s.lge := rfl
@[simp] theorem State.fbm_setNcu (x : Ncu) (s : State) : (s.setNcu x).fbm = s.fbm := rfl
@[simp] theorem State.pru_setNcu (x : Ncu) (s : State) : (s.setNcu x).pru = s.pru := rfl
@[simp] theorem State.bks_setNcu (x : Ncu) (s : State) : (s.setNcu x).bks = s.bks := rfl
@[simp] theorem State.rpu_setNcu (x : Ncu) (s : State) : (s.setNcu x).rpu = s.rpu := rfl
@[simp] theorem State.mgu_setNcu (x : Ncu) (s : State) : (s.setNcu x).mgu = s.mgu := rfl
@[simp] theorem State.ncu_setNcu (x : Ncu) (s : State) : (s.setNcu x).ncu = x := rfl
@[simp] theorem State.ciu_setNcu (x : Ncu) (s : State) : (s.setNcu x).ciu = s.ciu := rfl
@[simp] theorem State.pins_setNcu (x : Ncu) (s : State) : (s.setNcu x).pins = s.pins := rfl
@[simp] theorem State.pending_setNcu (x : Ncu) (s : State) : (s.setNcu x).pending = s.pending := rfl
@[simp] theorem State.freeIndex_setNcu (x : Ncu) (s : State) : (s.setNcu x).freeIndex = s.freeIndex := rfl

/-! ### setCiu -/

@[simp] theorem State.ctu_setCiu (x : Ciu) (s : State) : (s.setCiu x).ctu = s.ctu := rfl
@[simp] theorem State.esu_setCiu (x : Ciu) (s : State) : (s.setCiu x).esu = s.esu := rfl
@[simp] theorem State.lge_setCiu (x : Ciu) (s : State) : (s.setCiu x).lge = s.lge := rfl
@[simp] theorem State.fbm_setCiu (x : Ciu) (s : State) : (s.setCiu x).fbm = s.fbm := rfl
@[simp] theorem State.pru_setCiu (x : Ciu) (s : State) : (s.setCiu x).pru = s.pru := rfl
@[simp] theorem State.bks_setCiu (x : Ciu) (s : State) : (s.setCiu x).bks = s.bks := rfl
@[simp] theorem State.rpu_setCiu (x : Ciu) (s : State) : (s.setCiu x).rpu = s.rpu := rfl
@[simp] theorem State.mgu_setCiu (x : Ciu) (s : State) : (s.setCiu x).mgu = s.mgu := rfl
@[simp] theorem State.ncu_setCiu (x : Ciu) (s : State) : (s.setCiu x).ncu = s.ncu := rfl
@[simp] theorem State.ciu_setCiu (x : Ciu) (s : State) : (s.setCiu x).ciu = x := rfl
@[simp] theorem State.pins_setCiu (x : Ciu) (s : State) : (s.setCiu x).pins = s.pins := rfl
@[simp] theorem State.pending_setCiu (x : Ciu) (s : State) : (s.setCiu x).pending = s.pending := rfl
@[simp] theorem State.freeIndex_setCiu (x : Ciu) (s : State) : (s.setCiu x).freeIndex = s.freeIndex := rfl

/-! ### setPins -/

@[simp] theorem State.ctu_setPins (x : Pins) (s : State) : (s.setPins x).ctu = s.ctu := rfl
@[simp] theorem State.esu_setPins (x : Pins) (s : State) : (s.setPins x).esu = s.esu := rfl
@[simp] theorem State.lge_setPins (x : Pins) (s : State) : (s.setPins x).lge = s.lge := rfl
@[simp] theorem State.fbm_setPins (x : Pins) (s : State) : (s.setPins x).fbm = s.fbm := rfl
@[simp] theorem State.pru_setPins (x : Pins) (s : State) : (s.setPins x).pru = s.pru := rfl
@[simp] theorem State.bks_setPins (x : Pins) (s : State) : (s.setPins x).bks = s.bks := rfl
@[simp] theorem State.rpu_setPins (x : Pins) (s : State) : (s.setPins x).rpu = s.rpu := rfl
@[simp] theorem State.mgu_setPins (x : Pins) (s : State) : (s.setPins x).mgu = s.mgu := rfl
@[simp] theorem State.ncu_setPins (x : Pins) (s : State) : (s.setPins x).ncu = s.ncu := rfl
@[simp] theorem State.ciu_setPins (x : Pins) (s : State) : (s.setPins x).ciu = s.ciu := rfl
@[simp] theorem State.pins_setPins (x : Pins) (s : State) : (s.setPins x).pins = x := rfl
@[simp] theorem State.pending_setPins (x : Pins) (s : State) : (s.setPins x).pending = s.pending := rfl
@[simp] theorem State.freeIndex_setPins (x : Pins) (s : State) : (s.setPins x).freeIndex = s.freeIndex := rfl

/-! ### setPending -/

@[simp] theorem State.ctu_setPending (x : List Instr) (s : State) : (s.setPending x).ctu = s.ctu := rfl
@[simp] theorem State.esu_setPending (x : List Instr) (s : State) : (s.setPending x).esu = s.esu := rfl
@[simp] theorem State.lge_setPending (x : List Instr) (s : State) : (s.setPending x).lge = s.lge := rfl
@[simp] theorem State.fbm_setPending (x : List Instr) (s : State) : (s.setPending x).fbm = s.fbm := rfl
@[simp] theorem State.pru_setPending (x : List Instr) (s : State) : (s.setPending x).pru = s.pru := rfl
@[simp] theorem State.bks_setPending (x : List Instr) (s : State) : (s.setPending x).bks = s.bks := rfl
@[simp] theorem State.rpu_setPending (x : List Instr) (s : State) : (s.setPending x).rpu = s.rpu := rfl
@[simp] theorem State.mgu_setPending (x : List Instr) (s : State) : (s.setPending x).mgu = s.mgu := rfl
@[simp] theorem State.ncu_setPending (x : List Instr) (s : State) : (s.setPending x).ncu = s.ncu := rfl
@[simp] theorem State.ciu_setPending (x : List Instr) (s : State) : (s.setPending x).ciu = s.ciu := rfl
@[simp] theorem State.pins_setPending (x : List Instr) (s : State) : (s.setPending x).pins = s.pins := rfl
@[simp] theorem State.pending_setPending (x : List Instr) (s : State) : (s.setPending x).pending = x := rfl
@[simp] theorem State.freeIndex_setPending (x : List Instr) (s : State) : (s.setPending x).freeIndex = s.freeIndex := rfl

/-! ### setFreeIndex -/

@[simp] theorem State.ctu_setFreeIndex (x : Nat) (s : State) : (s.setFreeIndex x).ctu = s.ctu := rfl
@[simp] theorem State.esu_setFreeIndex (x : Nat) (s : State) : (s.setFreeIndex x).esu = s.esu := rfl
@[simp] theorem State.lge_setFreeIndex (x : Nat) (s : State) : (s.setFreeIndex x).lge = s.lge := rfl
@[simp] theorem State.fbm_setFreeIndex (x : Nat) (s : State) : (s.setFreeIndex x).fbm = s.fbm := rfl
@[simp] theorem State.pru_setFreeIndex (x : Nat) (s : State) : (s.setFreeIndex x).pru = s.pru := rfl
@[simp] theorem State.bks_setFreeIndex (x : Nat) (s : State) : (s.setFreeIndex x).bks = s.bks := rfl
@[simp] theorem State.rpu_setFreeIndex (x : Nat) (s : State) : (s.setFreeIndex x).rpu = s.rpu := rfl
@[simp] theorem State.mgu_setFreeIndex (x : Nat) (s : State) : (s.setFreeIndex x).mgu = s.mgu := rfl
@[simp] theorem State.ncu_setFreeIndex (x : Nat) (s : State) : (s.setFreeIndex x).ncu = s.ncu := rfl
@[simp] theorem State.ciu_setFreeIndex (x : Nat) (s : State) : (s.setFreeIndex x).ciu = s.ciu := rfl
@[simp] theorem State.pins_setFreeIndex (x : Nat) (s : State) : (s.setFreeIndex x).pins = s.pins := rfl
@[simp] theorem State.pending_setFreeIndex (x : Nat) (s : State) : (s.setFreeIndex x).pending = s.pending := rfl
@[simp] theorem State.freeIndex_setFreeIndex (x : Nat) (s : State) : (s.setFreeIndex x).freeIndex = x := rfl

/-! ### Setting the same block twice -/

@[simp] theorem State.setCtu_setCtu (x y : Ctu) (s : State) : (s.setCtu x).setCtu y = s.setCtu y := rfl
@[simp] theorem State.setEsu_setEsu (x y : Esu) (s : State) : (s.setEsu x).setEsu y = s.setEsu y := rfl
@[simp] theorem State.setLge_setLge (x y : Lge) (s : State) : (s.setLge x).setLge y = s.setLge y := rfl
@[simp] theorem State.setFbm_setFbm (x y : Fbm) (s : State) : (s.setFbm x).setFbm y = s.setFbm y := rfl
@[simp] theorem State.setPru_setPru (x y : Pru) (s : State) : (s.setPru x).setPru y = s.setPru y := rfl
@[simp] theorem State.setBks_setBks (x y : Bks) (s : State) : (s.setBks x).setBks y = s.setBks y := rfl
@[simp] theorem State.setRpu_setRpu (x y : Rpu) (s : State) : (s.setRpu x).setRpu y = s.setRpu y := rfl
@[simp] theorem State.setMgu_setMgu (x y : Mgu) (s : State) : (s.setMgu x).setMgu y = s.setMgu y := rfl
@[simp] theorem State.setNcu_setNcu (x y : Ncu) (s : State) : (s.setNcu x).setNcu y = s.setNcu y := rfl
@[simp] theorem State.setCiu_setCiu (x y : Ciu) (s : State) : (s.setCiu x).setCiu y = s.setCiu y := rfl
@[simp] theorem State.setPins_setPins (x y : Pins) (s : State) : (s.setPins x).setPins y = s.setPins y := rfl
@[simp] theorem State.setPending_setPending (x y : List Instr) (s : State) : (s.setPending x).setPending y = s.setPending y := rfl
@[simp] theorem State.setFreeIndex_setFreeIndex (x y : Nat) (s : State) : (s.setFreeIndex x).setFreeIndex y = s.setFreeIndex y := rfl

/-! ### Setting a block to what it is -/

@[simp] theorem State.setCtu_self (s : State) : s.setCtu s.ctu = s := rfl
@[simp] theorem State.setEsu_self (s : State) : s.setEsu s.esu = s := rfl
@[simp] theorem State.setLge_self (s : State) : s.setLge s.lge = s := rfl
@[simp] theorem State.setFbm_self (s : State) : s.setFbm s.fbm = s := rfl
@[simp] theorem State.setPru_self (s : State) : s.setPru s.pru = s := rfl
@[simp] theorem State.setBks_self (s : State) : s.setBks s.bks = s := rfl
@[simp] theorem State.setRpu_self (s : State) : s.setRpu s.rpu = s := rfl
@[simp] theorem State.setMgu_self (s : State) : s.setMgu s.mgu = s := rfl
@[simp] theorem State.setNcu_self (s : State) : s.setNcu s.ncu = s := rfl
@[simp] theorem State.setCiu_self (s : State) : s.setCiu s.ciu = s := rfl
@[simp] theorem State.setPins_self (s : State) : s.setPins s.pins = s := rfl
@[simp] theorem State.setPending_self (s : State) : s.setPending s.pending = s := rfl
@[simp] theorem State.setFreeIndex_self (s : State) : s.setFreeIndex s.freeIndex = s := rfl

end Sys2Proof.Machine
end

