-- ==== Sys2Proof/Laws/Families.lean ====
section
/-! SUPPORT. Reading one member of a family after another has been replaced, and the readings of the state after the
named updates. -/

namespace Sys2Proof.Machine

/-! ### Families -/

@[simp] theorem PerLeg.get_set_same {α : Type} (v : PerLeg α) (i : LegId) (x : α) : (v.set i x).get i = x := by
  cases i <;> rfl

theorem PerLeg.get_set_other {α : Type} (v : PerLeg α) {i j : LegId} (h : j ≠ i) (x : α) :
    (v.set i x).get j = v.get j := by
  cases i <;> cases j <;> first | rfl | exact absurd rfl h

theorem PerLeg.get_set {α : Type} (v : PerLeg α) (i j : LegId) (x : α) :
    (v.set i x).get j = if j = i then x else v.get j := by
  cases i <;> cases j <;> rfl

@[simp] theorem PerLeg.set_get_same {α : Type} (v : PerLeg α) (i : LegId) : v.set i (v.get i) = v := by
  cases i <;> rfl

@[simp] theorem PerLeg.get_tabulate {α : Type} (f : LegId → α) (i : LegId) : (PerLeg.tabulate f).get i = f i := by
  cases i <;> rfl

/-- Two families with the same members are the same family. -/
theorem PerLeg.ext_get {α : Type} {v w : PerLeg α} (h : ∀ i, v.get i = w.get i) : v = w := by
  have h0 := h .l0; have h1 := h .l1; have h2 := h .l2
  have h3 := h .l3; have h4 := h .l4; have h5 := h .l5
  cases v; cases w
  simp only [PerLeg.get] at h0 h1 h2 h3 h4 h5
  subst h0 h1 h2 h3 h4 h5
  rfl

@[simp] theorem PerSwitch.get_set_same {α : Type} (v : PerSwitch α) (i : Switch) (x : α) : (v.set i x).get i = x := by
  cases i <;> rfl

theorem PerSwitch.get_set {α : Type} (v : PerSwitch α) (i j : Switch) (x : α) :
    (v.set i x).get j = if j = i then x else v.get j := by
  cases i <;> cases j <;> rfl

@[simp] theorem PerSwitch.set_get_same {α : Type} (v : PerSwitch α) (i : Switch) : v.set i (v.get i) = v := by
  cases i <;> rfl

@[simp] theorem PerChan.get_set_same {α : Type} (v : PerChan α) (i : ChanId) (x : α) : (v.set i x).get i = x := by
  cases i <;> rfl

theorem PerChan.get_set {α : Type} (v : PerChan α) (i j : ChanId) (x : α) :
    (v.set i x).get j = if j = i then x else v.get j := by
  cases i <;> cases j <;> rfl

@[simp] theorem PerChan.get_tabulate {α : Type} (f : ChanId → α) (i : ChanId) : (PerChan.tabulate f).get i = f i := by
  cases i <;> rfl

@[simp] theorem PerStrobe.get_set_same {α : Type} (v : PerStrobe α) (i : StrobeId) (x : α) :
    (v.set i x).get i = x := by
  cases i <;> rfl

theorem PerStrobe.get_set {α : Type} (v : PerStrobe α) (i j : StrobeId) (x : α) :
    (v.set i x).get j = if j = i then x else v.get j := by
  cases i <;> cases j <;> rfl

@[simp] theorem PerClass.get_set_same {α : Type} (v : PerClass α) (i : RecClass) (x : α) : (v.set i x).get i = x := by
  cases i <;> rfl

theorem PerClass.get_set {α : Type} (v : PerClass α) (i j : RecClass) (x : α) :
    (v.set i x).get j = if j = i then x else v.get j := by
  cases i <;> cases j <;> rfl

/-! ### Loops -/

theorem forLegs_eq (f : LegId → State → State) (s : State) :
    forLegs f s = f .l5 (f .l4 (f .l3 (f .l2 (f .l1 (f .l0 s))))) := rfl

theorem forChans_eq (f : ChanId → State → State) (s : State) :
    forChans f s = f .c3 (f .c2 (f .c1 (f .c0 s))) := rfl

/-- A condition every pass keeps is kept by the loop over the legs. -/
theorem forLegs_keeps {P : State → Prop} {f : LegId → State → State} (h : ∀ l t, P t → P (f l t)) {s : State}
    (hs : P s) : P (forLegs f s) := by
  rw [forLegs_eq]
  exact h _ _ (h _ _ (h _ _ (h _ _ (h _ _ (h _ _ hs)))))

/-- A condition every pass keeps is kept by the loop over the channels. -/
theorem forChans_keeps {P : State → Prop} {f : ChanId → State → State} (h : ∀ n t, P t → P (f n t)) {s : State}
    (hs : P s) : P (forChans f s) := by
  rw [forChans_eq]
  exact h _ _ (h _ _ (h _ _ (h _ _ hs)))

/-- A condition every pass keeps is kept by the loop over a set of legs. -/
theorem forLegsIn_keeps {P : State → Prop} {v : LegSet} {f : LegId → State → State} (h : ∀ l t, P t → P (f l t))
    {s : State} (hs : P s) : P (forLegsIn v f s) := by
  refine forLegs_keeps (fun l t ht => ?_) hs
  by_cases hv : v.get l
  · simpa [hv] using h l t ht
  · simpa [hv] using ht

/-- A condition every pass keeps is kept by the loop over the switches. -/
theorem forSwitches_keeps {P : State → Prop} {f : LegId → Switch → State → State}
    (h : ∀ l sw t, P t → P (f l sw t)) {s : State} (hs : P s) : P (forSwitches f s) :=
  forLegs_keeps (fun l t ht => h l .lower _ (h l .upper t ht)) hs

/-! ### Readings after an update -/

@[simp] theorem leg_setLeg_same (l : LegId) (x : Leg) (s : State) : (s.setLeg l x).leg l = x := by
  simp [State.leg, State.setLeg]

theorem leg_setLeg (l k : LegId) (x : Leg) (s : State) : (s.setLeg l x).leg k = if k = l then x else s.leg k := by
  simp only [State.leg, State.setLeg, State.lge_setLge, PerLeg.get_set]

@[simp] theorem leg_setMonitor (l k : LegId) (sw : Switch) (m : Monitor) (s : State) :
    (s.setMonitor l sw m).leg k = s.leg k := rfl

@[simp] theorem monitor_setMonitor_same (l : LegId) (sw : Switch) (m : Monitor) (s : State) :
    (s.setMonitor l sw m).monitor l sw = m := by
  simp [State.monitor, State.setMonitor]

theorem monitor_setMonitor (l k : LegId) (sw sx : Switch) (m : Monitor) (s : State) :
    (s.setMonitor l sw m).monitor k sx = if k = l ∧ sx = sw then m else s.monitor k sx := by
  simp only [State.monitor, State.setMonitor, State.fbm_setFbm, PerLeg.get_set]
  by_cases hk : k = l
  · subst hk
    by_cases hs : sx = sw
    · subst hs; simp
    · simp [hs, PerSwitch.get_set]
  · simp [hk]

@[simp] theorem monitor_setLeg (l k : LegId) (sw : Switch) (x : Leg) (s : State) :
    (s.setLeg l x).monitor k sw = s.monitor k sw := rfl

@[simp] theorem channel_setChannel_same (n : ChanId) (x : Channel) (s : State) :
    (s.setChannel n x).channel n = x := by
  simp [State.channel, State.setChannel]

theorem channel_setChannel (n k : ChanId) (x : Channel) (s : State) :
    (s.setChannel n x).channel k = if k = n then x else s.channel k := by
  simp only [State.channel, State.setChannel, State.pru_setPru, PerChan.get_set]

@[simp] theorem commanded_setMonitor (l k : LegId) (sw sx : Switch) (m : Monitor) (s : State) :
    (s.setMonitor l sw m).commanded k sx = s.commanded k sx := rfl

@[simp] theorem now_setLeg (l : LegId) (x : Leg) (s : State) : (s.setLeg l x).now = s.now := rfl

@[simp] theorem now_setMonitor (l : LegId) (sw : Switch) (m : Monitor) (s : State) :
    (s.setMonitor l sw m).now = s.now := rfl

@[simp] theorem legParams_setLeg (l k : LegId) (x : Leg) (s : State) : (s.setLeg l x).legParams k = s.legParams k := rfl

@[simp] theorem legParams_setMonitor (l k : LegId) (sw : Switch) (m : Monitor) (s : State) :
    (s.setMonitor l sw m).legParams k = s.legParams k := rfl

end Sys2Proof.Machine
end

