-- ==== Sys2Proof/Laws/Frames.lean ====
section
/-! SUPPORT. What the operations of the Leg Engine leave unchanged, said once for each of them: only leg records, LGE
counters, monitors and feedback counters change. -/

namespace Sys2Proof.Machine

namespace SameButLegs

theorem refl (s : State) : SameButLegs s s := ⟨rfl, rfl, rfl, rfl, rfl, rfl, rfl, rfl, rfl, rfl, rfl, rfl⟩

theorem trans {s t u : State} (h : SameButLegs s t) (g : SameButLegs t u) : SameButLegs s u :=
  ⟨g.ctu.trans h.ctu, g.esu.trans h.esu, g.pru.trans h.pru, g.bks.trans h.bks, g.rpu.trans h.rpu, g.mgu.trans h.mgu,
    g.ncu.trans h.ncu, g.ciu.trans h.ciu, g.pins.trans h.pins, g.pending.trans h.pending,
    g.freeIndex.trans h.freeIndex, g.edgeCounts.trans h.edgeCounts⟩

theorem setLge (x : Lge) (s : State) : SameButLegs s (s.setLge x) :=
  ⟨rfl, rfl, rfl, rfl, rfl, rfl, rfl, rfl, rfl, rfl, rfl, rfl⟩

theorem setLeg (l : LegId) (x : Leg) (s : State) : SameButLegs s (s.setLeg l x) := setLge _ s

theorem setMonitor (l : LegId) (sw : Switch) (m : Monitor) (s : State) : SameButLegs s (s.setMonitor l sw m) :=
  ⟨rfl, rfl, rfl, rfl, rfl, rfl, rfl, rfl, rfl, rfl, rfl, rfl⟩

theorem countLegs (f : LegCounters → LegCounters) (s : State) : SameButLegs s (s.countLegs f) := setLge _ s

theorem countFeedback (f : FeedbackCounters → FeedbackCounters) (s : State) : SameButLegs s (s.countFeedback f) :=
  ⟨rfl, rfl, rfl, rfl, rfl, rfl, rfl, rfl, rfl, rfl, rfl, rfl⟩

theorem idleMonitors (s : State) : SameButLegs s s.idleMonitors :=
  ⟨rfl, rfl, rfl, rfl, rfl, rfl, rfl, rfl, rfl, rfl, rfl, rfl⟩

theorem ofForLegs {f : LegId → State → State} (h : ∀ l t, SameButLegs t (f l t)) (s : State) :
    SameButLegs s (forLegs f s) :=
  forLegs_keeps (P := SameButLegs s) (fun l _ ht => ht.trans (h l _)) (refl s)

theorem ofForLegsIn {f : LegId → State → State} (v : LegSet) (h : ∀ l t, SameButLegs t (f l t)) (s : State) :
    SameButLegs s (forLegsIn v f s) :=
  forLegsIn_keeps (P := SameButLegs s) (fun l _ ht => ht.trans (h l _)) (refl s)

theorem ofForSwitches {f : LegId → Switch → State → State} (h : ∀ l sw t, SameButLegs t (f l sw t)) (s : State) :
    SameButLegs s (forSwitches f s) :=
  forSwitches_keeps (P := SameButLegs s) (fun l sw _ ht => ht.trans (h l sw _)) (refl s)

/-- The node time is the same. -/
theorem now {s t : State} (h : SameButLegs s t) : t.now = s.now := by simp [State.now, h.ctu]

/-- The active bank is the same. -/
theorem activeBank {s t : State} (h : SameButLegs s t) : t.activeBank = s.activeBank := by
  simp [State.activeBank, h.bks]

/-- The leg parameters are the same. -/
theorem legParams {s t : State} (h : SameButLegs s t) (l : LegId) : t.legParams l = s.legParams l := by
  simp [State.legParams, h.activeBank]

/-- The protection entries are the same. -/
theorem protParams {s t : State} (h : SameButLegs s t) (n : ChanId) : t.protParams n = s.protParams n := by
  simp [State.protParams, h.activeBank]

end SameButLegs

theorem fbmCommand_same (l : LegId) (sw : Switch) (v : Bool) (s : State) : SameButLegs s (fbmCommand l sw v s) := by
  unfold fbmCommand
  cases hm : s.monitor l sw with
  | idle => exact .refl s
  | quiet => dsimp only; split <;> exact .setMonitor _ _ _ s
  | watching e c d =>
    dsimp only
    split
    · exact .setMonitor _ _ _ s
    · exact (SameButLegs.countFeedback _ s).trans (.setMonitor _ _ _ _)
  | filtering d => dsimp only; split <;> exact .setMonitor _ _ _ s
  | failed => dsimp only; split <;> exact .setMonitor _ _ _ s

theorem reportChange_same (l : LegId) (sw : Switch) (b : Bool) (s : State) : SameButLegs s (reportChange l sw b s) := by
  unfold reportChange
  split
  · exact .refl s
  · exact fbmCommand_same l sw _ s

theorem putLeg_same (l : LegId) (x : Leg) (s : State) : SameButLegs s (putLeg l x s) :=
  ((SameButLegs.setLeg l x s).trans (reportChange_same l .upper _ _)).trans (reportChange_same l .lower _ _)

theorem judgeLeg_same (l : LegId) (s : State) : SameButLegs s (judgeLeg l s) := by
  unfold judgeLeg
  dsimp only
  split
  · split
    · exact putLeg_same l _ s
    · exact .refl s
  · split
    · exact putLeg_same l _ s
    · exact .refl s
  · exact .refl s

theorem refuseRequest_same (s : State) : SameButLegs s (refuseRequest s) := .countLegs _ s

theorem replaceDeferred_same (s : State) : SameButLegs s (replaceDeferred s) := .countLegs _ s

theorem requestElapsed_same (l : LegId) (side : Switch) (t : Target) (s : State) :
    SameButLegs s (requestElapsed l side t s) := by
  unfold requestElapsed
  split
  · exact putLeg_same l _ s
  · split
    · exact .refl s
    · exact (putLeg_same l _ s).trans (judgeLeg_same l _)

theorem requestDeferred_same (l : LegId) (side : Switch) (a b : Time) (c : Option Time) (d : Option Target)
    (t : Target) (s : State) : SameButLegs s (requestDeferred l side a b c d t s) := by
  cases d with
  | none => exact .setLeg l _ s
  | some _ => exact (replaceDeferred_same s).trans (.setLeg l _ _)

theorem requestTurnOn_same (l : LegId) (sw : Switch) (s : State) : SameButLegs s (requestTurnOn l sw s) :=
  (SameButLegs.setLeg l _ s).trans (judgeLeg_same l _)

/-- An ordinary request changes legs, monitors and their counters only (R27 to R31). -/
theorem requestLeg_same (l : LegId) (t : Target) (s : State) : SameButLegs s (requestLeg l t s) := by
  unfold requestLeg
  split
  · exact refuseRequest_same s
  · cases hc : (s.leg l).cond with
    | heldOff h => exact refuseRequest_same s
    | safe a b c => exact refuseRequest_same s
    | off =>
      dsimp only
      split
      · exact .refl s
      · exact requestTurnOn_same l _ s
    | gap p e r =>
      dsimp only
      split
      · exact .setLeg l _ s
      · exact requestTurnOn_same l _ s
    | on side a m b d =>
      cases m with
      | none => exact requestElapsed_same l side t s
      | some e => exact requestDeferred_same l side a e b d t s

theorem suppressClamp_same (l : LegId) (s : State) : SameButLegs s (suppressClamp l s) := by
  unfold suppressClamp
  split
  · exact putLeg_same l _ s
  · exact .setLeg l _ s
  · exact .refl s

/-- A cause added to a leg changes legs, monitors and their counters only (R42). -/
theorem addCause_same (l : LegId) (x : LegCause) (b : Bool) (s : State) : SameButLegs s (addCause l x b s) := by
  unfold addCause
  split
  · split
    · dsimp only
      split
      · exact (SameButLegs.setLeg l _ s).trans (suppressClamp_same l _)
      · exact .setLeg l _ s
    · exact (putLeg_same l _ s).trans (judgeLeg_same l _)
  · exact .refl s

theorem setCauses_same (l : LegId) (cs : Causes) (s : State) : SameButLegs s (setCauses l cs s) := by
  unfold setCauses
  split
  · split
    · exact putLeg_same l _ s
    · exact .setLeg l _ s
  · exact .refl s

theorem removeCause_same (l : LegId) (x : LegCause) (s : State) : SameButLegs s (removeCause l x s) := by
  unfold removeCause
  split
  · exact setCauses_same l _ s
  · exact .refl s

/-- A force order changes legs, monitors and their counters only (R40). -/
theorem forceLeg_same (n : ChanId) (l : LegId) (s : State) : SameButLegs s (forceLeg n l s) := by
  unfold forceLeg
  split
  · cases hc : (s.leg l).cond with
    | safe a b c => exact .refl s
    | heldOff h => exact .setLeg l _ s
    | off => exact .setLeg l _ s
    | gap p e r => exact .setLeg l _ s
    | on a b c d e => exact putLeg_same l _ s
  · exact .refl s

/-- A withdraw order changes one leg record only (R41). -/
theorem withdrawLeg_same (n : ChanId) (l : LegId) (s : State) : SameButLegs s (withdrawLeg n l s) := by
  unfold withdrawLeg
  split
  · split
    · exact .setLeg l _ s
    · exact .refl s
  · exact .refl s

theorem stopLeg_same (l : LegId) (s : State) : SameButLegs s (stopLeg l s) := by
  unfold stopLeg
  split
  · exact putLeg_same l _ s
  · exact .setLeg l _ s
  · exact .refl s

theorem coastLegs_same (s : State) : SameButLegs s (coastLegs s) := by
  refine .ofForLegs (fun l t => ?_) s
  split
  · exact stopLeg_same l t
  · exact .refl t

theorem openSafeLegs_same (s : State) : SameButLegs s (openSafeLegs s) := .ofForLegs suppressClamp_same s

theorem disarmLegs_same (s : State) : SameButLegs s (disarmLegs s) :=
  .ofForLegs (fun l t => (stopLeg_same l t).trans (suppressClamp_same l _)) s

theorem restartLegs_same (s : State) : SameButLegs s (restartLegs s) :=
  (SameButLegs.ofForLegs (fun l t => putLeg_same l _ t) s).trans (.countLegs _ _)

theorem haltLegs_same (s : State) : SameButLegs s (haltLegs s) := by
  refine .ofForLegs (fun l t => ?_) s
  split
  · exact .refl t
  · exact addCause_same l _ _ t

theorem tripLegs_same (n : ChanId) (v : LegSet) (s : State) : SameButLegs s (tripLegs n v s) :=
  .ofForLegsIn v (fun l t => addCause_same l _ _ t) s

theorem withdrawLegs_same (n : ChanId) (v : LegSet) (s : State) : SameButLegs s (withdrawLegs n v s) :=
  .ofForLegsIn v (withdrawLeg_same n) s

theorem clearLegs_same (v : LegSet) (s : State) : SameButLegs s (clearLegs v s) :=
  .ofForLegsIn v (fun l t => setCauses_same l _ t) s

theorem swapLeg_same (old : Bank) (l : LegId) (s : State) : SameButLegs s (swapLeg old l s) := by
  have disable : SameButLegs s (swapDisableLeg l s) := by
    unfold swapDisableLeg
    split
    · exact putLeg_same l _ s
    · exact .setLeg l _ s
  have single : SameButLegs s (swapToSingle l s) := by
    unfold swapToSingle
    refine (SameButLegs.setMonitor l .lower .idle s).trans ?_
    dsimp only
    split
    · exact putLeg_same l _ _
    · exact .setLeg l _ _
    · exact suppressClamp_same l _
    · exact .setLeg l _ _
  unfold swapLeg
  split
  · exact .refl s
  · exact .setLeg l _ s
  · exact .setLeg l _ s
  · exact disable
  · exact .refl s
  · exact single
  · exact disable
  · exact .setLeg l _ s
  · exact .refl s

theorem alignMonitor_same (old : Bank) (l : LegId) (sw : Switch) (s : State) :
    SameButLegs s (alignMonitor old l sw s) := by
  unfold alignMonitor
  dsimp only
  split
  · exact .refl s
  · split
    · split
      · exact .refl s
      · exact .setMonitor _ _ _ s
    · split
      · split
        · exact .refl s
        · exact .setMonitor _ _ _ s
      · exact .setMonitor _ _ _ s

end Sys2Proof.Machine
end

