-- ==== Sys2Proof/Laws/Reports.lean ====
section
/-! SUPPORT. What the report queue's operations do: they touch the RPU and the EDGE counts only, and they keep the
queue's bound and the balance of its counters. -/

namespace Sys2Proof.Machine

/-! ### What an offer leaves unchanged -/

theorem SameButReports.refl (s : State) : SameButReports s s :=
  ⟨rfl, rfl, rfl, rfl, rfl, rfl, rfl, rfl, rfl, rfl, rfl, rfl⟩

theorem SameButReports.trans {s t u : State} (h : SameButReports s t) (g : SameButReports t u) : SameButReports s u :=
  ⟨g.ctu.trans h.ctu, g.esu.trans h.esu, g.lge.trans h.lge, g.pru.trans h.pru, g.bks.trans h.bks, g.mgu.trans h.mgu,
    g.ncu.trans h.ncu, g.ciu.trans h.ciu, g.pins.trans h.pins, g.pending.trans h.pending,
    g.freeIndex.trans h.freeIndex, g.monitors.trans h.monitors⟩

@[simp] theorem monitors_countEdge (b : RecBody) (f : Nat → Nat) (x : Fbm) :
    (x.countEdge b f).monitors = x.monitors := by
  unfold Fbm.countEdge
  split <;> rfl

@[simp] theorem counters_countEdge (b : RecBody) (f : Nat → Nat) (x : Fbm) :
    (x.countEdge b f).counters = x.counters := by
  unfold Fbm.countEdge
  split <;> rfl

theorem enqueue_same (r : Record) (s : State) : SameButReports s (enqueue r s) :=
  ⟨rfl, rfl, rfl, rfl, rfl, rfl, rfl, rfl, rfl, rfl, rfl, monitors_countEdge _ _ _⟩

theorem evict_same (v : Record) (rest : List Record) (s : State) : SameButReports s (evict v rest s) :=
  ⟨rfl, rfl, rfl, rfl, rfl, rfl, rfl, rfl, rfl, rfl, rfl, monitors_countEdge _ _ _⟩

theorem sendRecord_same (v : Record) (rest : List Record) (s : State) : SameButReports s (sendRecord v rest s) :=
  ⟨rfl, rfl, rfl, rfl, rfl, rfl, rfl, rfl, rfl, rfl, rfl, monitors_countEdge _ _ _⟩

theorem setRpu_same (x : Rpu) (s : State) : SameButReports s (s.setRpu x) :=
  ⟨rfl, rfl, rfl, rfl, rfl, rfl, rfl, rfl, rfl, rfl, rfl, rfl⟩

theorem offerRecord_same (r : Record) (s : State) : SameButReports s (offerRecord r s) := by
  unfold offerRecord
  split
  · exact enqueue_same r s
  · split
    · exact (evict_same _ _ s).trans (enqueue_same r _)
    · exact setRpu_same _ s

/-- A record created touches the RPU and the EDGE counts only (R145, R147). -/
theorem report_same (b : RecBody) (s : State) : SameButReports s (report b s) :=
  (setRpu_same _ s).trans (offerRecord_same _ _)

theorem refuseCapture_same (s : State) : SameButReports s (refuseCapture s) :=
  ⟨rfl, rfl, rfl, rfl, rfl, rfl, rfl, rfl, rfl, rfl, rfl, rfl⟩

theorem captureEdge_same (l : LegId) (sw : Switch) (d : Bool) (c : Time) (s : State) :
    SameButReports s (captureEdge l sw d c s) := by
  unfold captureEdge
  split
  · split
    · exact refuseCapture_same s
    · exact report_same _ s
  · exact .refl s

/-- The records a merge takes leave the rest of the node unchanged (R157). -/
theorem collect_same (limit fuel used : Nat) (s : State) : SameButReports s (collect limit fuel used s).2 := by
  induction fuel generalizing used s with
  | zero => exact .refl s
  | succ n ih =>
    unfold collect
    split
    · exact .refl s
    · split
      · exact (sendRecord_same _ _ s).trans (ih _ _)
      · exact .refl s

/-! ### Splitting the queue -/

theorem takeNewest_perm {k : RecClass} {q rest : List Record} {v : Record} (h : takeNewest k q = some (v, rest)) :
    q.Perm (v :: rest) := by
  induction q generalizing v rest with
  | nil => simp [takeNewest] at h
  | cons r q ih =>
    unfold takeNewest at h
    split at h
    · next x others hx =>
      simp only [Option.some.injEq, Prod.mk.injEq] at h
      obtain ⟨rfl, rfl⟩ := h
      exact ((ih hx).cons r).trans (List.Perm.swap _ _ _)
    · split at h
      · simp only [Option.some.injEq, Prod.mk.injEq] at h
        obtain ⟨rfl, rfl⟩ := h
        exact .refl _
      · simp at h

theorem takeOldest_perm {k : RecClass} {q rest : List Record} {v : Record} (h : takeOldest k q = some (v, rest)) :
    q.Perm (v :: rest) := by
  induction q generalizing v rest with
  | nil => simp [takeOldest] at h
  | cons r q ih =>
    unfold takeOldest at h
    split at h
    · simp only [Option.some.injEq, Prod.mk.injEq] at h
      obtain ⟨rfl, rfl⟩ := h
      exact .refl _
    · split at h
      · next x others hx =>
        simp only [Option.some.injEq, Prod.mk.injEq] at h
        obtain ⟨rfl, rfl⟩ := h
        exact ((ih hx).cons r).trans (List.Perm.swap _ _ _)
      · simp at h

/-- The victim with the records left is the queue (R149, R150). -/
theorem chooseVictim_perm {ks : List RecClass} {q rest : List Record} {v : Record}
    (h : chooseVictim ks q = some (v, rest)) : q.Perm (v :: rest) := by
  induction ks with
  | nil => simp [chooseVictim] at h
  | cons k ks ih =>
    unfold chooseVictim at h
    split at h
    · next x hx =>
      simp only [Option.some.injEq] at h
      subst h
      exact takeNewest_perm hx
    · exact ih h

/-- The head in removal order with the records left is the queue (R153). -/
theorem removalHead_perm {q rest : List Record} {v : Record} (h : removalHead q = some (v, rest)) :
    q.Perm (v :: rest) := by
  unfold removalHead at h
  split at h
  · next x hx => simp only [Option.some.injEq] at h; subst h; exact takeOldest_perm hx
  · split at h
    · next x hx => simp only [Option.some.injEq] at h; subst h; exact takeOldest_perm hx
    · split at h
      · next x hx => simp only [Option.some.injEq] at h; subst h; exact takeOldest_perm hx
      · exact takeOldest_perm h

theorem countClass_perm {k : RecClass} {p q : List Record} (h : p.Perm q) : countClass k p = countClass k q :=
  (h.filter _).length_eq

theorem countEdges_perm {l : LegId} {p q : List Record} (h : p.Perm q) : countEdges l p = countEdges l q :=
  (h.filter _).length_eq

theorem countClass_cons (k : RecClass) (r : Record) (q : List Record) :
    countClass k (r :: q) = countClass k q + if r.cls = k then 1 else 0 := by
  by_cases h : r.cls = k <;> simp [countClass, h]

theorem countEdges_cons (l : LegId) (r : Record) (q : List Record) :
    countEdges l (r :: q) = countEdges l q + if r.body.edgeLeg = some l then 1 else 0 := by
  by_cases h : r.body.edgeLeg = some l <;> simp [countEdges, h]

theorem countClass_snoc (k : RecClass) (r : Record) (q : List Record) :
    countClass k (q ++ [r]) = countClass k q + if r.cls = k then 1 else 0 := by
  rw [countClass_perm (List.perm_append_singleton r q), countClass_cons]

theorem countEdges_snoc (l : LegId) (r : Record) (q : List Record) :
    countEdges l (q ++ [r]) = countEdges l q + if r.body.edgeLeg = some l then 1 else 0 := by
  rw [countEdges_perm (List.perm_append_singleton r q), countEdges_cons]

/-! ### The balance -/

theorem accountsBalanced_iff (s : State) : AccountsBalanced s ↔ ∀ k, ClassBalanced k s :=
  ⟨fun h k => by cases k; exacts [h.1, h.2.1, h.2.2.1, h.2.2.2], fun h => ⟨h .f, h .m, h .e, h .c⟩⟩

/-- One class's counters balance for `n` records in the queue. -/
def Balanced (a : Accounting) (n : Nat) : Prop := a.placed = a.sent + a.dropped + a.held ∧ a.held = BitVec.ofNat 32 n

theorem ofNat_succ (n : Nat) : BitVec.ofNat 32 (n + 1) = BitVec.ofNat 32 n + 1 := BitVec.ofNat_add n 1

theorem Balanced.takenIn {a : Accounting} {n : Nat} (h : Balanced a n) : Balanced a.takenIn (n + 1) := by
  refine ⟨?_, ?_⟩
  · simp only [Accounting.takenIn, h.1]; ring
  · simp only [Accounting.takenIn, h.2, ofNat_succ]

theorem Balanced.refused {a : Accounting} {n : Nat} (h : Balanced a n) : Balanced a.refused n := by
  refine ⟨?_, h.2⟩
  simp only [Accounting.refused, h.1]; ring

theorem Balanced.evicted {a : Accounting} {n : Nat} (h : Balanced a (n + 1)) : Balanced a.evicted n := by
  refine ⟨?_, ?_⟩
  · simp only [Accounting.evicted, h.1]; ring
  · simp only [Accounting.evicted, h.2, ofNat_succ]; ring

theorem Balanced.moved {a : Accounting} {n : Nat} (h : Balanced a (n + 1)) : Balanced a.moved n := by
  refine ⟨?_, ?_⟩
  · simp only [Accounting.moved, h.1]; ring
  · simp only [Accounting.moved, h.2, ofNat_succ]; ring

theorem edgeCounts_countEdge (b : RecBody) (f : Nat → Nat) (x : Fbm) (l : LegId) :
    (x.countEdge b f).edgeCounts.get l = if b.edgeLeg = some l then f (x.edgeCounts.get l) else x.edgeCounts.get l := by
  unfold Fbm.countEdge
  split
  · next k hk =>
    by_cases hl : l = k
    · subst hl; simp [hk]
    · simp [hk, PerLeg.get_set, hl, Ne.symm hl]
  · next hk => simp [hk]

/-- The counters and EDGE counts fit a queue, whatever its length. -/
def ReportsFit (s : State) : Prop :=
  (∀ k, Balanced (s.rpu.accounting.get k) (countClass k s.rpu.queue)) ∧
    ∀ l, s.fbm.edgeCounts.get l = countEdges l s.rpu.queue

theorem reportsOk_iff (s : State) :
    ReportsOk s ↔ s.rpu.queue.length ≤ 48 ∧ ReportsFit s ∧ ∀ l, s.fbm.edgeCounts.get l ≤ 2 :=
  ⟨fun h => ⟨h.1, ⟨(accountsBalanced_iff s).1 h.2.1, fun l => (h.2.2 l).1⟩, fun l => (h.2.2 l).2⟩,
    fun h => ⟨h.1, (accountsBalanced_iff s).2 h.2.1.1, fun l => ⟨h.2.1.2 l, h.2.2 l⟩⟩⟩

/-- Only the RPU and the EDGE counts matter to the reports. -/
theorem ReportsOk.of_eq {s t : State} (hr : t.rpu = s.rpu) (he : t.fbm.edgeCounts = s.fbm.edgeCounts)
    (h : ReportsOk s) : ReportsOk t := by
  rw [reportsOk_iff] at h ⊢
  simpa only [ReportsFit, hr, he] using h

/-- The legs' operations keep the reports. -/
theorem ReportsOk.of_legs {s t : State} (hs : SameButLegs s t) (h : ReportsOk s) : ReportsOk t :=
  h.of_eq hs.rpu hs.edgeCounts

theorem account_get (k j : RecClass) (f : Accounting → Accounting) (x : Rpu) :
    (x.account k f).accounting.get j = if j = k then f (x.accounting.get k) else x.accounting.get j := by
  simp only [Rpu.account, PerClass.get_set]

theorem enqueue_fit {r : Record} {s : State} (h : ReportsFit s) : ReportsFit (enqueue r s) := by
  refine ⟨fun k => ?_, fun l => ?_⟩
  · show Balanced ((s.rpu.account r.cls Accounting.takenIn).accounting.get k) (countClass k (s.rpu.queue ++ [r]))
    rw [account_get, countClass_snoc]
    by_cases hk : k = r.cls
    · subst hk; simpa using (h.1 _).takenIn
    · simpa [hk, Ne.symm hk] using h.1 k
  · show (s.fbm.countEdge r.body (· + 1)).edgeCounts.get l = countEdges l (s.rpu.queue ++ [r])
    rw [edgeCounts_countEdge, countEdges_snoc, h.2 l]
    split <;> simp

theorem remove_fit {v : Record} {rest : List Record} {f : Accounting → Accounting} {s t : State}
    (hf : ∀ a n, Balanced a (n + 1) → Balanced (f a) n) (hq : s.rpu.queue.Perm (v :: rest))
    (ha : t.rpu.accounting = (s.rpu.account v.cls f).accounting) (hrest : t.rpu.queue = rest)
    (he : t.fbm.edgeCounts = (s.fbm.countEdge v.body (· - 1)).edgeCounts) (h : ReportsFit s) : ReportsFit t := by
  refine ⟨fun k => ?_, fun l => ?_⟩
  · rw [ha, hrest, account_get]
    have hb := h.1 k
    rw [countClass_perm hq, countClass_cons] at hb
    by_cases hk : k = v.cls
    · subst hk; simp only [if_pos] at hb ⊢; exact hf _ _ hb
    · simpa [hk, Ne.symm hk] using hb
  · rw [he, hrest, edgeCounts_countEdge, h.2 l, countEdges_perm hq, countEdges_cons]
    split <;> simp

theorem evict_fit {v : Record} {rest : List Record} {s : State} (hq : s.rpu.queue.Perm (v :: rest))
    (h : ReportsFit s) : ReportsFit (evict v rest s) :=
  remove_fit (fun _ _ hb => hb.evicted) hq rfl rfl rfl h

theorem sendRecord_fit {v : Record} {rest : List Record} {s : State} (hq : s.rpu.queue.Perm (v :: rest))
    (h : ReportsFit s) : ReportsFit (sendRecord v rest s) :=
  remove_fit (fun _ _ hb => hb.moved) hq rfl rfl rfl h

theorem dropOffered_fit {r : Record} {s : State} (h : ReportsFit s) : ReportsFit (dropOffered r s) := by
  refine ⟨fun k => ?_, h.2⟩
  show Balanced ((s.rpu.account r.cls Accounting.refused).accounting.get k) (countClass k s.rpu.queue)
  rw [account_get]
  by_cases hk : k = r.cls
  · subst hk; simpa using (h.1 _).refused
  · simpa [hk] using h.1 k

theorem offerRecord_fit {r : Record} {s : State} (h : ReportsFit s) : ReportsFit (offerRecord r s) := by
  unfold offerRecord
  split
  · exact enqueue_fit h
  · split
    · next v rest hv => exact enqueue_fit (evict_fit (chooseVictim_perm hv) h)
    · exact dropOffered_fit h

/-- A record created keeps the balance (R154). -/
theorem report_fit {b : RecBody} {s : State} (h : ReportsFit s) : ReportsFit (report b s) :=
  offerRecord_fit (s := advanceSeq s) h

/-- A record created keeps the queue's bound (R147). -/
theorem report_bounded {b : RecBody} {s : State} (h : s.rpu.queue.length ≤ 48) :
    (report b s).rpu.queue.length ≤ 48 := by
  unfold report offerRecord
  split
  · next hl =>
    simp only [advanceSeq, queueLimit, State.rpu_setRpu] at hl
    simp [enqueue, advanceSeq, Rpu.account]
    omega
  · split
    · next v rest hv =>
      have := (chooseVictim_perm hv).length_eq
      simp only [advanceSeq, State.rpu_setRpu, List.length_cons] at this
      simp [enqueue, evict, advanceSeq, Rpu.account]
      omega
    · simpa [dropOffered, advanceSeq, Rpu.account] using h

theorem refuseCapture_fit {s : State} (h : ReportsFit s) : ReportsFit (refuseCapture s) := by
  refine ⟨fun k => ?_, h.2⟩
  show Balanced ((s.rpu.account .c Accounting.refused).accounting.get k) (countClass k s.rpu.queue)
  rw [account_get]
  by_cases hk : k = .c
  · subst hk; simpa using (h.1 _).refused
  · simpa [hk] using h.1 k

end Sys2Proof.Machine
end

