-- ==== Sys2Proof/Laws/Events.lean ====
section
/-! SUPPORT. What the node's compound events leave unchanged, halts, confirm failures, trips, swaps, marks and decodes
among them: node time, the input pins, the chain ports, the response store, the banks' contents and the model's queue. -/

namespace Sys2Proof.Machine

theorem SameOutside.refl (s : State) : SameOutside s s := ⟨rfl, rfl, rfl, rfl, rfl, rfl, rfl, rfl⟩

theorem SameOutside.trans {s t u : State} (h : SameOutside s t) (g : SameOutside t u) : SameOutside s u :=
  ⟨g.now.trans h.now, g.pins.trans h.pins, g.ciu.trans h.ciu, g.mgu.trans h.mgu, g.bankA.trans h.bankA,
    g.bankB.trans h.bankB, g.pending.trans h.pending, g.freeIndex.trans h.freeIndex⟩

theorem SameButLegs.outside {s t : State} (h : SameButLegs s t) : SameOutside s t :=
  ⟨h.now, h.pins, h.ciu, h.mgu, by rw [h.bks], by rw [h.bks], h.pending, h.freeIndex⟩

theorem SameButReports.outside {s t : State} (h : SameButReports s t) : SameOutside s t :=
  ⟨by simp [State.now, h.ctu], h.pins, h.ciu, h.mgu, by rw [h.bks], by rw [h.bks], h.pending, h.freeIndex⟩

namespace SameOutside

theorem setLge (x : Lge) (s : State) : SameOutside s (s.setLge x) := ⟨rfl, rfl, rfl, rfl, rfl, rfl, rfl, rfl⟩

theorem setFbm (x : Fbm) (s : State) : SameOutside s (s.setFbm x) := ⟨rfl, rfl, rfl, rfl, rfl, rfl, rfl, rfl⟩

theorem setPru (x : Pru) (s : State) : SameOutside s (s.setPru x) := ⟨rfl, rfl, rfl, rfl, rfl, rfl, rfl, rfl⟩

theorem setEsu (x : Esu) (s : State) : SameOutside s (s.setEsu x) := ⟨rfl, rfl, rfl, rfl, rfl, rfl, rfl, rfl⟩

theorem setNcu (x : Ncu) (s : State) : SameOutside s (s.setNcu x) := ⟨rfl, rfl, rfl, rfl, rfl, rfl, rfl, rfl⟩

theorem ofForLegs {f : LegId → State → State} (h : ∀ l t, SameOutside t (f l t)) (s : State) :
    SameOutside s (forLegs f s) :=
  forLegs_keeps (P := SameOutside s) (fun l _ ht => ht.trans (h l _)) (refl s)

theorem ofForLegsIn {f : LegId → State → State} (v : LegSet) (h : ∀ l t, SameOutside t (f l t)) (s : State) :
    SameOutside s (forLegsIn v f s) :=
  forLegsIn_keeps (P := SameOutside s) (fun l _ ht => ht.trans (h l _)) (refl s)

theorem ofForSwitches {f : LegId → Switch → State → State} (h : ∀ l sw t, SameOutside t (f l sw t)) (s : State) :
    SameOutside s (forSwitches f s) :=
  forSwitches_keeps (P := SameOutside s) (fun l sw _ ht => ht.trans (h l sw _)) (refl s)

theorem ofForChans {f : ChanId → State → State} (h : ∀ n t, SameOutside t (f n t)) (s : State) :
    SameOutside s (forChans f s) :=
  forChans_keeps (P := SameOutside s) (fun n _ ht => ht.trans (h n _)) (refl s)

end SameOutside

/-! ### Schedule, commit, halts -/

/-- A discard event changes the schedule, its counters and the reports only (R65). -/
theorem discardEntries_outside (keep : SchedEntry → Bool) (r : DiscardReason) (s : State) :
    SameOutside s (discardEntries keep r s) := by
  unfold discardEntries
  split
  · exact .refl s
  · exact (SameOutside.setEsu _ s).trans ((SameOutside.setEsu _ _).trans (report_same _ _).outside)

theorem strobesLow_outside (s : State) : SameOutside s (strobesLow s) := .setEsu _ s

/-- A cancelled commit changes the pending commit and the reports only (R138). -/
theorem cancelCommit_outside (r : CancelReason) (s : State) : SameOutside s (cancelCommit r s) := by
  unfold cancelCommit
  split
  · exact .refl s
  · next target _ =>
    have dropped : SameOutside s (s.setBks { s.bks with pending := none }) := ⟨rfl, rfl, rfl, rfl, rfl, rfl, rfl, rfl⟩
    exact dropped.trans (report_same _ _).outside

theorem leaveOperation_outside (s : State) : SameOutside s (leaveOperation s) := ⟨rfl, rfl, rfl, rfl, rfl, rfl, rfl, rfl⟩

theorem haltFurther_outside (x : HaltCause) (s : State) : SameOutside s (haltFurther x s) :=
  ((SameOutside.setNcu _ s).trans (report_same _ _).outside).trans (haltLegs_same _).outside

theorem haltEnter_outside (x : HaltCause) (s : State) : SameOutside s (haltEnter x s) :=
  ((((((SameOutside.setNcu _ s).trans (report_same _ _).outside).trans (haltLegs_same _).outside).trans
    (discardEntries_outside _ _ _)).trans (strobesLow_outside _)).trans (cancelCommit_outside _ _)).trans
    (leaveOperation_outside _)

theorem haltByMonitor_outside (x : HaltCause) (s : State) : SameOutside s (haltByMonitor x s) := by
  unfold haltByMonitor
  split
  · exact .refl s
  · exact haltEnter_outside x s
  · exact haltEnter_outside x s
  · exact haltEnter_outside x s
  · exact haltFurther_outside x s

/-! ### Monitors -/

theorem failSwitch_outside (l : LegId) (sw : Switch) (src : FailSource) (e u : Bool) (s : State) :
    SameOutside s (failSwitch l sw src e u s) := by
  unfold failSwitch
  dsimp only
  split
  · exact (report_same _ s).outside.trans (addCause_same l _ _ _).outside
  · exact ((report_same _ s).outside.trans (addCause_same l _ _ _).outside).trans (haltByMonitor_outside _ _)

theorem failWatch_outside (l : LegId) (sw : Switch) (e : Bool) (s : State) : SameOutside s (failWatch l sw e s) :=
  ((SameOutside.setFbm _ s).trans (.setFbm _ _)).trans (failSwitch_outside l sw _ _ _ _)

theorem disagree_outside (l : LegId) (sw : Switch) (s : State) : SameOutside s (disagree l sw s) :=
  ((SameOutside.setFbm _ s).trans (.setFbm _ _)).trans (failSwitch_outside l sw _ _ _ _)

theorem watchSuccess_outside (l : LegId) (sw : Switch) (e : Bool) (c : Time) (edge : Bool) (s : State) :
    SameOutside s (watchSuccess l sw e c edge s) := by
  have judged (t : State) (h : SameOutside s t) :
      SameOutside s (if edge && decide (s.now ≠ c) then captureEdge l sw e c t else t) := by
    split
    · exact h.trans (captureEdge_same l sw e c t).outside
    · exact h
  unfold watchSuccess
  dsimp only
  refine judged _ ?_
  split
  · split
    · exact (SameOutside.setFbm _ s).trans (judgeLeg_same l _).outside
    · exact .setFbm _ s
  · exact .setFbm _ s

/-- A monitor's observation leaves time, pins, ports, response store, banks and queue unchanged (R73). -/
theorem observe_outside (l : LegId) (sw : Switch) (edge : Bool) (s : State) : SameOutside s (observe l sw edge s) := by
  unfold observe
  cases hm : s.monitor l sw with
  | idle => exact .refl s
  | quiet =>
    dsimp only
    split
    · exact .refl s
    · split
      · exact disagree_outside l sw s
      · exact .setFbm _ s
  | watching e c d =>
    dsimp only
    split
    · exact watchSuccess_outside l sw e c edge s
    · exact .refl s
  | filtering d =>
    dsimp only
    split
    · exact .setFbm _ s
    · exact .refl s
  | failed =>
    dsimp only
    split
    · exact .setFbm _ s
    · exact .refl s

theorem startMonitors_outside (s : State) : SameOutside s (startMonitors s) := by
  refine (SameOutside.ofForSwitches (fun l sw t => ?_) s).trans
    (.ofForSwitches (fun l sw t => observe_outside l sw false t) _)
  split
  · exact .setFbm _ t
  · exact .refl t

/-- A halt order leaves time, pins, ports, response store, banks and queue unchanged (R119, R120). -/
theorem haltOrder_outside (x : HaltCause) (s : State) : SameOutside s (haltOrder x s) := by
  unfold haltOrder
  split
  · exact .refl s
  · exact (haltEnter_outside x s).trans (startMonitors_outside _)
  · exact haltEnter_outside x s
  · exact haltEnter_outside x s
  · exact haltFurther_outside x s

/-! ### Protection -/

theorem tripEffect_outside (n : ChanId) (b : TripBasis) (s : State) : SameOutside s (tripEffect n b s) := by
  unfold tripEffect
  dsimp only
  split
  · exact (report_same _ s).outside.trans (tripLegs_same n _ _).outside
  · split
    · exact (report_same _ s).outside.trans (tripLegs_same n _ _).outside
    · exact (report_same _ s).outside.trans (haltOrder_outside _ _)
    · exact (report_same _ s).outside.trans (haltOrder_outside _ _)
    · exact (report_same _ s).outside.trans (haltOrder_outside _ _)
    · exact (report_same _ s).outside.trans (haltOrder_outside _ _)

/-- A trip leaves time, pins, ports, response store, banks and queue unchanged (R96, R97). -/
theorem tripChannel_outside (n : ChanId) (f : LegSet) (s : State) : SameOutside s (tripChannel n f s) :=
  (((tripEffect_outside n _ s).trans (withdrawLegs_same n f _).outside).trans (.setPru _ _)).trans (.setPru _ _)

theorem takeAssertion_outside (n : ChanId) (s : State) : SameOutside s (takeAssertion n s) := by
  have held : SameOutside s (forLegsIn (if (s.protParams n).fast then affectedSet n s else LegSet.empty) (forceLeg n)
      ((s.setChannel n (.qualifying (s.now + (s.protParams n).qualify.setWidth 32) (s.protParams n).fast
        (if (s.protParams n).fast then affectedSet n s else LegSet.empty))).countProt fun k =>
          { k with assertions := satInc k.assertions })) :=
    ((SameOutside.setPru _ s).trans (.setPru _ _)).trans
      (.ofForLegsIn _ (fun l t => (forceLeg_same n l t).outside) _)
  unfold takeAssertion
  dsimp only
  split
  · exact held.trans (tripChannel_outside n _ _)
  · exact held

theorem glitch_outside (n : ChanId) (r : GlitchReason) (f : LegSet) (s : State) : SameOutside s (glitch n r f s) :=
  (((report_same _ s).outside.trans (withdrawLegs_same n f _).outside).trans (.setPru _ _)).trans (.setPru _ _)

theorem releaseChannel_outside (n : ChanId) (b : ReleaseBasis) (s : State) : SameOutside s (releaseChannel n b s) :=
  (((SameOutside.ofForLegsIn _ (fun l t => (removeCause_same l (.fi n) t).outside) s).trans
    (report_same _ _).outside).trans (.setPru _ _)).trans (.setPru _ _)

theorem readInput_outside (n : ChanId) (s : State) : SameOutside s (readInput n s) := by
  unfold readInput
  split
  · exact takeAssertion_outside n s
  · exact .refl s

theorem swapChannels_outside (old : Bank) (s : State) : SameOutside s (swapChannels old s) := by
  refine .ofForChans (fun n t => ?_) s
  split
  · unfold swapChangedEntry
    split
    · exact readInput_outside n t
    · exact (glitch_outside n _ _ t).trans (readInput_outside n _)
    · exact (releaseChannel_outside n _ t).trans (readInput_outside n _)
    · split
      · exact (tripEffect_outside n _ t).trans (.setPru _ _)
      · exact .setPru _ t
  · unfold swapUnchangedEntry
    split
    · split
      · exact .refl t
      · exact (SameOutside.setPru _ t).trans (.ofForLegsIn _ (fun l u => (forceLeg_same n l u).outside) _)
    · exact .refl t

/-! ### Swaps and marks -/

theorem swapMonitors_outside (old : Bank) (s : State) : SameOutside s (swapMonitors old s) :=
  ((SameOutside.ofForSwitches (fun l sw t => (alignMonitor_same old l sw t).outside) s).trans
    (.ofForSwitches (fun l sw t => observe_outside l sw false t) _)).trans
    (.ofForLegs (fun l t => (judgeLeg_same l t).outside) _)

/-- A swap changes which bank is active and what the blocks make of it, and no bank's content (R139). -/
theorem swapBanks_outside (f : CommitForm) (s : State) : SameOutside s (swapBanks f s) := by
  have exchanged : SameOutside s (exchangeBanks s) := ⟨rfl, rfl, rfl, rfl, rfl, rfl, rfl, rfl⟩
  have recorded := exchanged.trans (report_same (.commitDone f (exchangeBanks s).bks.active s.ctu.cycle) _).outside
  have legs := recorded.trans (.ofForLegs (fun l t => (swapLeg_same s.activeBank l t).outside) _)
  have schedule := legs.trans (discardEntries_outside (swapKeeps s.activeBank (exchangeBanks s).activeBank) .swap _)
  exact (schedule.trans (swapMonitors_outside s.activeBank _)).trans (swapChannels_outside s.activeBank _)

theorem commitCheck_outside (s : State) : SameOutside s (commitCheck s) := by
  unfold commitCheck
  split
  · exact .refl s
  · split
    · exact swapBanks_outside _ s
    · exact .refl s

theorem placePart_outside (e : SchedEntry) (s : State) : SameOutside s (placePart e s) :=
  (SameOutside.setEsu _ s).trans (.setEsu _ _)

theorem rejectEntry_outside (n : Half) (i : Nat) (r : RejectReason) (e : Entry) (s : State) :
    SameOutside s (rejectEntry n i r e s) :=
  (SameOutside.setEsu _ s).trans (report_same _ _).outside

theorem decodeEntry_outside (m : Time) (n p : Half) (i : Nat) (e : Entry) (s : State) :
    SameOutside s (decodeEntry m n p i e s) := by
  have placed (ps : List SchedEntry) (t : State) : SameOutside t (ps.foldl (fun u x => placePart x u) t) := by
    induction ps generalizing t with
    | nil => exact .refl t
    | cons x xs ih => exact (placePart_outside x t).trans (ih _)
  unfold decodeEntry
  split
  · exact .setEsu _ s
  · split
    · exact rejectEntry_outside n i _ e s
    · dsimp only
      split
      · exact rejectEntry_outside n i _ e s
      · exact (placed _ s).trans (.setEsu _ _)

/-- Decoding changes the schedule, its counters and the reports only, as far as time, ports, banks and queue go (R49). -/
theorem decodeEntriesFrom_outside (m : Time) (n p : Half) (i : Nat) (es : List Entry) (s : State) :
    SameOutside s (decodeEntriesFrom m n p i es s) := by
  induction es generalizing i s with
  | nil => exact .refl s
  | cons e es ih => exact (decodeEntry_outside m n p i e s).trans (ih _ _)

theorem takeStrobe_outside (x : StrobeId) (s : State) : SameOutside s (takeStrobe x s) := by
  unfold takeStrobe
  dsimp only
  split
  · exact (SameOutside.setEsu _ s).trans (.setEsu _ _)
  · exact (SameOutside.setEsu _ s).trans (.setEsu _ _)

/-- The entries taken act on legs and strobes only (R60). -/
theorem takeEntries_outside (es : List SchedEntry) (s : State) : SameOutside s (takeEntries es s) := by
  unfold takeEntries
  induction es generalizing s with
  | nil => exact .refl s
  | cons e es ih =>
    have taken : SameOutside s (takeWork e.work s) := by
      unfold takeWork
      split
      · exact (requestLeg_same _ _ s).outside
      · exact takeStrobe_outside _ s
    exact taken.trans (ih _)

end Sys2Proof.Machine
end

