-- ==== Sys2Proof/Tests/Slice0.lean ====
section
/-! SUPPORT. Tests: the well-formedness checks refuse what they should, sanity of the frame check and the encodings on
bytes written out from the tables, single steps, and, for every statement with hypotheses, a state and operands that meet
them (`test_…_met`), with every clause at a boundary of its range. -/

namespace Sys2Proof.Tests

open Sys2Proof Sys2Proof.Machine

/-! ## Sample states -/

/-- A MANAGE head for address 2. -/
def head : ManageHead := { dest := 2, seq := 7, spare := 0 }

/-- A COMPLEMENTARY leg record with every feature in use. -/
def legA : LegRecord :=
  { Bank.initial.legs.l0 with
    mode := .complementary, address := 11, deadUpper := 10, deadLower := 20, minOn := 5, maxOn := 1000
    confirmWindow := 8, gapWaitsConfirm := true, disagreeFilter := 4, capture := .edges, coast := .off
    safeState := .clampLower }

/-- A SINGLE leg record with dead times 0 and no confirm watch. -/
def legB : LegRecord :=
  { Bank.initial.legs.l0 with
    mode := .single, address := 12, deadUpper := 0, deadLower := 0, overlongAction := .trip, disagreeFilter := 4
    coast := .hold }

/-- A COMPLEMENTARY leg record with dead times 0, no confirm wait, and the upper clamp. -/
def legC : LegRecord :=
  { Bank.initial.legs.l0 with
    mode := .complementary, address := 13, deadUpper := 0, deadLower := 0, confirmWindow := 8, disagreeFilter := 4, safeState := .clampUpper }

/-- A FAST, AUTO entry that trips legs 0 and 1. -/
def entryA : ProtEntry :=
  { Bank.initial.prot.c0 with
    use := .active, fast := true, qualify := 3, legs := LegSet.ofByte 3, action := .tripLegs, latch := .auto, hold := 7 }

/-- A LATCHED entry that halts the node. -/
def entryB : ProtEntry :=
  { Bank.initial.prot.c0 with use := .active, qualify := 3, action := .haltNode, latch := .latched }

/-- A bank with three legs, a strobe and two channels in use; legs 3..5 are DISABLED. -/
def bank : Bank :=
  { legs := { Bank.initial.legs with l0 := legA, l1 := legB, l2 := legC }
    strobes := { Bank.initial.strobes with s0 := { address := 20, pulseWidth := 9 } }
    prot := { Bank.initial.prot with c0 := entryA, c1 := entryB }
    node := { Bank.initial.node with captureReports := true } }

/-- A node at address 2 in a node state, both partners present and both ports receiving and sending, node time 5,000, the
awaited window centred there. -/
def at2 (n : NodeState) : State :=
  { State.reset with
    ctu := { Ctu.initial with
      nodeTime := 5000, nominal := 3000, period := 2000
      lock := match n with
        | .running => .locked
        | .syncing => .firstSeen
        | _ => .none }
    bks := { Bks.initial with bankA := bank }
    fbm := if n.monitors then
        { Fbm.initial with monitors := PerLeg.tabulate fun _ => { upper := .quiet, lower := .quiet } }
      else Fbm.initial
    ncu := { state := n, causes := if n = .halted then HaltSet.empty.add .linkLoss else HaltSet.empty }
    ciu := { Ciu.initial with
      uPartner := true, dPartner := true, uRx := true, dRx := true, uTx := true, dTx := true
      address := if n = .unaddressed then none else some 2
      down := [.enum 3], up := [{ origin := 3, brk := 0, payload := [] }] } }

/-- A state with leg 0's condition replaced. -/
def leg0 (c : LegCond) (s : State) : State := s.setLeg .l0 { cond := c, lastOff := 4990, rested := false }

/-- A state with some class E records queued. -/
def queued (k : RecClass) (count : Nat) (s : State) : State :=
  let body : RecBody := match k with
    | .f => .overlong .l0 .upper .off 0
    | .m => .response 0 1 .done []
    | .e => .sync .coast 0 0
    | .c => .edge .l0 .upper true 0 0
  s.setRpu { s.rpu with queue := List.replicate count { seq := 0, body := body } }

/-- A PULSE entry to UPPER at leg 0's address, OFFSET 256, WIDTH 3. -/
def pulseA : Entry := { address := 11, kind := .pulse, target := .upper, offset := 256, width := 3 }

/-! ## Well-formedness: what each check refuses -/

/-- A CYCLE frame with 65 entries. -/
theorem test_cycle_of_65_entries_refused :
    (Instr.cycle { number := 0, period := 2000, entries := List.replicate 65 pulseA }).wellFormed = false := by decide

/-- An ECHO of 4 units. -/
theorem test_echo_of_4_units_refused : (Instr.echo head [1, 2, 3, 4]).wellFormed = false := by decide

/-- WRITE to each table with a record of another length, and beyond the tables with 17 bytes. -/
theorem test_write_lengths_refused :
    (Instr.write head 0 0 (List.replicate 15 0)).wellFormed = false ∧
      (Instr.write head 1 0 (List.replicate 5 0)).wellFormed = false ∧
      (Instr.write head 2 0 (List.replicate 7 0)).wellFormed = false ∧
      (Instr.write head 3 0 (List.replicate 9 0)).wellFormed = false ∧
      (Instr.write head 4 0 (List.replicate 17 0)).wellFormed = false := by decide

/-- An UNKNOWN request with 65 parameter bytes. -/
theorem test_unknown_of_65_bytes_refused : (Instr.unknown head .code15 (List.replicate 65 0)).wellFormed = false := by
  decide

/-- U_FRAME_DISCARDED with a good downstream frame. -/
theorem test_discard_of_a_good_frame_refused :
    (Instr.uFrameDiscarded (DownFrame.enum 3).wire).wellFormed = false := by decide +kernel

/-! ## Encodings against bytes written out from the tables -/

/-- The check of the nine bytes "123456789" under the polynomial and start of R193. -/
theorem test_check_of_known_bytes :
    frameCheck [0x31, 0x32, 0x33, 0x34, 0x35, 0x36, 0x37, 0x38, 0x39] = 0x29B1#16 := by decide +kernel

/-- One CYCLE frame, its 14 content bytes written out from Tables 48 and 49: number 5, period 2,000, one PULSE entry to
UPPER at address 11, OFFSET 256, WIDTH 3. -/
theorem test_cycle_bytes_heard :
    hearContent [2, 1, 0, 5, 0x07, 0xD0, 11, 0x11, 0x01, 0x00, 0, 3] =
      .down (.cycle { number := 5, period := 2000, entries := [pulseA] }) := by decide

/-- MANAGE frames written out from Table 50: COMMIT with target 905 for node 2, SEQ 41; READ of the shadow's record 1 of
table 2; an unknown code. -/
theorem test_manage_bytes_heard :
    hearContent [3, 2, 41, 7, 1, 0x03, 0x89] =
        .down (.manage { dest := 2, seq := 41, spare := 0 } (.commitTargeted 905)) ∧
      hearContent [3, 0, 1, 0xA4, 1, 2, 1] =
        .down (.manage { dest := 0, seq := 1, spare := 0xA } (.read 1 2 1)) ∧
      hearContent [3, 2, 41, 15, 9] = .down (.manage { dest := 2, seq := 41, spare := 0 } (.unknown .code15 [9])) := by
  decide

/-- Malformed frames: an ENUM of 3 bytes, a CYCLE whose count differs, a KIND above 3, a FORM byte 2, an unknown first
byte. -/
theorem test_malformed_bytes :
    hearContent [1, 0, 0] = .bad ∧ hearContent [2, 1, 0, 5, 7, 0xD0] = .bad ∧
      hearContent [2, 1, 0, 5, 7, 0xD0, 11, 0x41, 0, 0, 0, 0] = .bad ∧ hearContent [3, 2, 41, 7, 2, 0, 0] = .bad ∧
      hearContent [5, 0, 0] = .bad := by decide

/-- A TRIP record of channel 1 on legs 0 and 2, HALT-NODE, at 256, a REJECT, an EDGE and a RESPONSE record, and the stub of
node 16, HALTED, legs 0 and 5 in SAFE, overflow and a commit pending, depth 48, written out from Table 51. -/
theorem test_record_bytes :
    encodeRecord { seq := 9, body := .trip .c1 .haltNode .qualified (LegSet.ofByte 5) 256 } = [0x110A0945, 0x00000100] ∧
      encodeRecord { seq := 9, body := .reject 3 4 .badWidth 11 } = [0x211A0904, 0x00030B00] ∧
      encodeRecord { seq := 9, body := .edge .l5 .lower true 256 1023 } = [0x3103091D, 0x00000100, 0x03FF0000] ∧
      encodeRecord { seq := 9, body := .response 7 15 .unknown [1] } = [0x8F420907, 1] ∧
      encodeStub 16 .halted (LegSet.ofByte 33) 48 true true = 0x01F06130 := by decide

/-! ## Single steps -/

/-- The state a command leaves. -/
def after (c : Instr) (s : State) : State :=
  match exec c s with
  | .next t => t
  | _ => s

/-- An ENUM with HOP 1 at a node just reset, whose U partner is there and which is receiving: address 2, STANDBY. -/
theorem test_enum_addresses_the_node :
    (after (.enum 1) (State.reset.setCiu { Ciu.initial with uPartner := true, uRx := true })).ciu.address = some 2 ∧
      (after (.enum 1) (State.reset.setCiu { Ciu.initial with uPartner := true, uRx := true })).ncu.state = .standby := by
  decide

/-- A MANAGE frame whose reception is not in progress is not taken (log 3, log 16). -/
theorem test_no_reception_no_request : exec (.status head) State.reset = .next State.reset := rfl

/-- A DRIVE entry of an accepted frame that is due at its mark is taken at once (R59): leg 2, off since node time 0, turns
its upper switch on, and the schedule is empty again. -/
theorem test_entry_due_at_the_mark :
    (after (.cycle { number := 1, period := 2000, entries := [{ pulseA with address := 13, kind := .drive, offset := 0 }] })
        (at2 .running)).commanded .l2 .upper = true ∧
      (after (.cycle { number := 1, period := 2000, entries := [{ pulseA with address := 13, kind := .drive, offset := 0 }] })
        (at2 .running)).esu.schedule = [] := by decide

/-- A watch of leg 0's upper switch, commanded on `ago` ticks ago, whose input rises now. -/
def risen (ago : Time) : State :=
  after (.feedbackInputChange .l0 .upper .high)
    ((leg0 (.on .upper 4990 none none none) (at2 .running)).setMonitor .l0 .upper (.watching true (5000 - ago) 5008))

/-- An input change at the watch's command instant makes no EDGE record, one a tick later makes one with DELAY 1 (R75,
R83); the watch is closed in both. -/
theorem test_no_edge_at_the_command_instant :
    (risen 0).rpu.queue = [] ∧ (risen 0).monitor .l0 .upper = .quiet ∧
      (risen 1).rpu.queue = [{ seq := 0, body := .edge .l0 .upper true 5000 1 }] ∧
      (risen 1).monitor .l0 .upper = .quiet := by decide

/-! ## Witnesses: states and operands that meet the statements' hypotheses -/

/-- No command waits and nothing is due in the state after reset. -/
theorem test_idle_step_met : State.reset.pending = [] ∧ dueCommands State.reset = [] := by decide

/-- A strobe pulse that ends now is due. -/
theorem test_due_events_met :
    (State.reset.setEsu { Esu.initial with pulses := { s0 := some 0, s1 := none } }).pending = [] ∧
      dueCommands (State.reset.setEsu { Esu.initial with pulses := { s0 := some 0, s1 := none } }) ≠ [] := by
  decide

/-- A pending commit in a node that commands act on. -/
def committing (n : NodeState) : State := (at2 n).setBks { (at2 n).bks with pending := some 905 }

/-- A command that completes while a commit is pending. -/
theorem test_unchanged_parts_met :
    (∃ t, exec .dTransmitEnd (committing .running) = .next t) ∧ (committing .running).bks.pending.isSome = true :=
  ⟨⟨_, rfl⟩, rfl⟩

/-- A running node with a record queued, an entry scheduled, a leg on, and a channel qualifying. -/
def busy : State :=
  (((report (.sync .coast 0 0) (leg0 (.on .upper 4990 none none none) (at2 .running))).setSchedule
      [{ due := 5100, work := .leg .l0 .off, source := 0, part := .one }]).setFaultPin .c0 .low).setChannel .c0
    (.qualifying 5003 true LegSet.empty)

/-- The invariants on the stores and the reports hold in the busy state, and a step from it has a next state. -/
theorem test_stores_and_reports_invariants_met :
    StoresBounded busy ∧ ReportsOk busy ∧ ∃ t, step (busy.setPending [.uTransmitEnd]) = .next t := by
  refine ⟨by unfold StoresBounded; decide, ⟨by decide, ?_, ?_⟩, ⟨_, rfl⟩⟩
  · unfold AccountsBalanced ClassBalanced; decide
  · intro l; cases l <;> decide

/-- The invariants on node, banks, legs, schedule and channels hold in the busy state. -/
theorem test_node_invariants_met :
    NodeConsistent busy ∧ BanksValid busy ∧ LegsFit busy ∧ ScheduleOrdered busy ∧ ChannelsFollowInputs busy := by
  refine ⟨?_, ⟨by decide, fun h => by cases h⟩, ?_, ?_, ?_⟩
  · refine ⟨by decide, by decide, ?_, rfl, (fun h => by cases h), fun h => absurd rfl h, fun h => by cases h⟩
    intro a h
    have e : a = 2 := by injection h with h; exact h.symm
    subst e; decide
  · intro l; unfold LegFits; cases l <;> decide
  · refine ⟨trivial, ?_, ⟨?_, trivial⟩⟩
    · decide
    · intro x h; cases h
  · intro n; cases n <;> decide

/-- A step that turns an output on: a gap whose end is reached now. -/
theorem test_turn_on_met :
    ∃ t, step ((leg0 (.gap .upper 5000 false) (at2 .running)).setPending [.gapEnd .l0]) = .next t ∧
      (leg0 (.gap .upper 5000 false) (at2 .running)).commanded .l0 .upper = false ∧ t.commanded .l0 .upper = true :=
  ⟨_, rfl, by decide, by decide⟩

/-- Well-formed frames at the bounds: 64 entries, 3 units of ECHO, a whole leg record, 64 unknown bytes, a full RETURN
payload and an empty one. -/
theorem test_frames_met :
    (DownFrame.cycle { number := 0, period := 0, entries := List.replicate 64 pulseA }).formOk = true ∧
      (DownFrame.manage head (.echo [1, 2, 3])).formOk = true ∧
      (DownFrame.manage head (.write 0 5 (List.replicate 16 0))).formOk = true ∧
      (DownFrame.manage head (.unknown .code0 (List.replicate 64 0))).formOk = true ∧
      ({ origin := 16, brk := 16, payload := List.replicate 64 0x01000000 } : ReturnFrame).formOk = true ∧
      ({ origin := 0, brk := 0, payload := [] } : ReturnFrame).formOk = true := by decide

/-- Bank records at the bounds of their ranges and just outside. -/
theorem test_bank_records_met :
    (({ legA with address := 250, maxOn := 1000 } : LegRecord).address.toNat ≤ 250 ∧
        1000 ≤ (1000 : BitVec 24).toNat ∧ (16000000 : BitVec 24).toNat ≤ 16000000 ∧
        1 ≤ (999 : BitVec 24).toNat ∧ (999 : BitVec 24).toNat ≤ 999 ∧ 16000000 < (16000001 : BitVec 24).toNat) ∧
      (250 < (251 : Byte).toNat ∧ 64 ≤ (64 : Byte).toNat ∧ 15 < (16 : Byte).toNat) ∧
      (decodeLegRecord [2, 250, 3, 255, 3, 255, 3, 255, 0, 0, 3, 0xE8, 3, 255, 0, 0x5F]).isSome = true ∧
      decodeLegRecord [3, 250, 3, 255, 3, 255, 3, 255, 0, 0, 3, 0xE8, 3, 255, 0, 0x5F] = none ∧
      decodeLegRecord [2, 250, 4, 0, 3, 255, 3, 255, 0, 0, 3, 0xE8, 3, 255, 0, 0x5F] = none ∧
      decodeLegRecord [2, 250, 3, 255, 3, 255, 3, 255, 0, 0, 3, 0xE7, 3, 255, 0, 0x5F] = none ∧
      decodeLegRecord [2, 250, 3, 255, 3, 255, 3, 255, 0, 0, 3, 0xE8, 3, 255, 0, 0x60] = none ∧
      (decodeNodeRecord [3, 255, 15, 0, 0, 0, 0, 0]).isSome = true ∧ decodeNodeRecord [4, 0, 15, 0, 0, 0, 0, 0] = none ∧
      (entryA.hold ≠ 0 ∧ ({ entryA with hold := 0 } : ProtEntry).hold = 0) ∧ bank.node.missLimit ≠ 0 ∧
      (bank.strobes.s0.address.toNat ≤ 250 ∧ bank.strobes.s0.pulseWidth ≠ 0) := by decide

/-- Offers below the bound, at it with no record to evict for each class, and at it with one to evict. -/
theorem test_offers_met :
    (queued .e 47 (at2 .running)).rpu.queue.length < 48 ∧ 48 ≤ (queued .c 48 (at2 .running)).rpu.queue.length ∧
      (∀ r ∈ (queued .c 48 (at2 .running)).rpu.queue, RecClass.e = .e ∧ r.cls = .c) ∧
      (∀ r ∈ (queued .m 48 (at2 .running)).rpu.queue, r.cls.rank ≤ RecClass.m.rank) ∧
      (∀ r ∈ (queued .f 48 (at2 .running)).rpu.queue, r.cls.rank ≤ RecClass.f.rank) ∧
      ∃ v, (queued .c 48 (at2 .running)).rpu.queue = List.replicate 47 v ++ v :: [] ∧ RecClass.f.rank < v.cls.rank ∧
        RecClass.m.rank < v.cls.rank ∧ ∀ r ∈ (queued .c 48 (at2 .running)).rpu.queue, r.cls.rank ≤ v.cls.rank := by
  refine ⟨by decide, by decide, by decide, by decide, by decide,
    ⟨{ seq := 0, body := .edge .l0 .upper true 0 0 }, by decide, by decide, by decide, by decide⟩⟩

/-- Merges at the first and the last address into an empty frame and into one that leaves just the reserve. -/
theorem test_merges_met :
    1 ≤ (1 : Byte).toNat ∧ (16 : Byte).toNat ≤ 16 ∧ ([] : List Quad).length ≤ 64 - (1 : Byte).toNat ∧
      (List.replicate 48 (0x01000000 : Quad)).length ≤ 64 - (16 : Byte).toNat := by decide

/-- Requests refused for each reason, and a leg that refuses none. -/
theorem test_refusals_met :
    (∃ h, ((leg0 (.heldOff (ChanSet.single .c0)) (at2 .running)).leg .l0).cond = .heldOff h) ∧
      (∃ cs p k, ((leg0 (.safe (Causes.empty.add .confirm) .opened none) (at2 .running)).leg .l0).cond = .safe cs p k) ∧
      ((at2 .running).legParams .l3).mode = .disabled ∧ ((at2 .running).legParams .l1).mode = .single ∧
      ((at2 .running).legParams .l0).mode = .complementary ∧ ((at2 .running).leg .l0).cond = .off :=
  ⟨⟨_, rfl⟩, ⟨_, _, _, rfl⟩, rfl, rfl, rfl, rfl⟩

/-- A leg in OFF and one in GAP: with the dead time over and confirmed, just short of the dead time, and rested with the
last turn-off a tick ago (as after node time has wrapped). -/
theorem test_requests_from_off_met :
    ((at2 .running).leg .l0).cond = .off ∧
      (∃ p e r, ((leg0 (.gap .lower 5010 false) (at2 .running)).leg .l0).cond = .gap p e r) ∧
      targetSwitch .upper = some .upper ∧ DeadTimeOver .l0 .upper (leg0 .off (at2 .running)) ∧
      ((at2 .running).setLeg .l0 { cond := .off, lastOff := 4999, rested := true }).now - 4999 = 1 ∧
      DeadTimeOver .l0 .lower ((at2 .running).setLeg .l0 { cond := .off, lastOff := 4999, rested := true }) ∧
      ConfirmMet .l0 .upper (leg0 .off (at2 .running)) ∧ ¬DeadTimeOver .l0 .lower (leg0 .off (at2 .running)) ∧
      ((at2 .running).legParams .l1).mode = .single := by
  refine ⟨rfl, ⟨_, _, _, rfl⟩, rfl, Or.inr (by decide), rfl, Or.inl rfl, Or.inr (fun c d h => by cases h), ?_, rfl⟩
  rintro (h | h)
  · exact absurd h (by decide)
  · exact absurd h (by decide)

/-- A conducting leg before MIN-ON-END, with and without DEFERRED, and after it, toward each target; the other side's dead
time is above 0 on leg 0 and 0 on leg 2. -/
theorem test_requests_on_conducting_met :
    ((at2 .running).legParams .l0).mode = .complementary ∧
      ((leg0 (.on .upper 4990 (some 5001) none (some .off)) (at2 .running)).leg .l0).cond =
        .on .upper 4990 (some 5001) none (some .off) ∧
      ((leg0 (.on .upper 4990 none none none) (at2 .running)).leg .l0).cond = .on .upper 4990 none none none ∧
      targetSwitch .upper = some .upper ∧ targetSwitch .lower = some .lower ∧
      deadOf ((at2 .running).legParams .l0) .lower ≠ 0 ∧ deadOf ((at2 .running).legParams .l2) .lower = 0 ∧
      ((at2 .running).legParams .l2).gapWaitsConfirm = false := by decide

/-- Forces and withdrawals: a DISABLED leg, a SAFE one, an enabled one; a leg held by one channel and by two. -/
theorem test_forces_met :
    (at2 .running).legEnabled .l3 = false ∧ (at2 .running).legEnabled .l0 = true ∧
      ((leg0 (.safe (Causes.empty.add .confirm) .opened none) (at2 .running)).leg .l0).cond.isSafe = true ∧
      ((at2 .running).leg .l0).cond.isSafe = false ∧ (ChanSet.single .c0).get .c0 = true ∧
      (∀ k, k ≠ ChanId.c0 → (ChanSet.single .c0).get k = false) ∧
      (((ChanSet.single .c0).set .c1 true).get .c0 = true ∧ ((ChanSet.single .c0).set .c1 true).get .c1 = true) := by
  refine ⟨rfl, rfl, rfl, rfl, rfl, fun k h => ?_, rfl, rfl⟩
  cases k <;> first | rfl | exact absurd rfl h

/-- Causes: on a SAFE leg; on legs with each clamp, conducting its clamp switch, conducting the other, and off with the
dead time over and not. -/
theorem test_causes_met :
    clampSwitch ((at2 .running).legParams .l0).safeState = some .lower ∧
      clampSwitch ((at2 .running).legParams .l2).safeState = some .upper ∧
      ((at2 .running).legParams .l1).safeState = .allOff ∧ (at2 .running).ncu.state ≠ .standby ∧
      (at2 .running).ncu.state ≠ .unaddressed ∧ ¬DeadTimeOver .l0 .lower (leg0 .off (at2 .running)) ∧
      DeadTimeOver .l0 .lower (at2 .running) ∧ ConfirmMet .l0 .lower (at2 .running) ∧
      (∃ a m d f, ((leg0 (.on .lower 4990 none none none) (at2 .running)).leg .l0).cond = .on .lower a m d f) ∧
      ∃ a m d f, ((leg0 (.on .upper 4990 none none none) (at2 .running)).leg .l0).cond = .on (otherSwitch .lower) a m d f := by
  refine ⟨rfl, rfl, rfl, by decide, by decide, ?_, Or.inr (by decide), Or.inr (fun c d h => by cases h),
    ⟨_, _, _, _, rfl⟩, ⟨_, _, _, _, rfl⟩⟩
  rintro (h | h)
  · exact absurd h (by decide)
  · exact absurd h (by decide)

/-- Halt orders in SYNCING and RUNNING, in HALTED and in UNADDRESSED, with legs that are DISABLED, free and in SAFE. -/
theorem test_halts_met :
    Operating (at2 .syncing) ∧ Operating (at2 .running) ∧ (at2 .halted).ncu.state = .halted ∧
      (at2 .unaddressed).ncu.state = .unaddressed ∧ (at2 .halted).ncu.state ≠ .unaddressed ∧
      (at2 .running).esu.schedule = [] ∧ (at2 .running).bks.pending = none ∧ (at2 .running).legEnabled .l3 = false ∧
      ((leg0 (.safe (Causes.empty.add .nodeHalt) .clamped (some .lower)) (at2 .halted)).leg .l0).cond.causes.has .nodeHalt =
        true ∧
      ((at2 .halted).leg .l0).cond.causes.has .nodeHalt = false :=
  ⟨Or.inl rfl, Or.inr rfl, rfl, rfl, by decide, rfl, rfl, rfl, rfl, rfl⟩

/-- A STANDBY node whose legs all have a DISAGREE-FILTER above 0, with leg 0's upper input showing "on". -/
def calm : State :=
  ((at2 .standby).setBks { Bks.initial with
    bankA := { bank with legs := PerLeg.tabulate fun l => { bank.legs.get l with disagreeFilter := 4 } } }).setFeedbackPin
      .l0 .upper .high

set_option maxRecDepth 100000 in
/-- A halt from STANDBY: monitors IDLE, every DISAGREE-FILTER above 0; sides monitored and not; an input that disagrees. -/
theorem test_halt_from_standby_met :
    calm.ncu.state = .standby ∧ calm.fbm.monitors = monitorsIdle ∧ (∀ l, (calm.legParams l).disagreeFilter ≠ 0) ∧
      (MonitoredSide (calm.legParams .l0).mode .upper ∧ (calm.legParams .l0).confirmWindow ≠ 0) ∧
      ¬(MonitoredSide (calm.legParams .l1).mode .upper ∧ (calm.legParams .l1).confirmWindow ≠ 0) ∧
      (haltOrder (.fault .c1) calm).monitor .l0 .upper = .filtering 5004 ∧
      (haltOrder (.fault .c1) calm).monitor .l2 .lower = .quiet := by
  refine ⟨rfl, by decide, fun l => by cases l <;> decide, ⟨Or.inl rfl, by decide⟩, fun h => h.2 rfl, by decide, by decide⟩

/-- The busy node with a commit pending and nothing reported. -/
def loaded : State := (busy.setBks { busy.bks with pending := some 905 }).setRpu Rpu.initial

set_option maxRecDepth 100000 in
/-- The records of a halt, a DISARM and a coast order that find an entry of leg 0 scheduled and a commit pending, in their
order (R119, R117, R67). -/
theorem test_records_of_leaving_operation :
    (haltOrder .linkLoss loaded).rpu.queue.map Record.body =
        [.halt .linkLoss (HaltSet.empty.add .linkLoss) .running 5000, .discard .halt 1 0 0, .cancelled .halt 905 0] ∧
      ((doDisarm head loaded).rpu.queue.map Record.body =
        [.discard .disarm 1 0 0, .cancelled .disarm 905 0, .response 7 10 .done []]) ∧
      (coastOrder loaded).rpu.queue.map Record.body = [.discard .coast 1 0 0] ∧
      (haltOrder .linkLoss loaded).esu.counters.discarded = 1 ∧ Operating loaded ∧ loaded.bks.pending = some 905 :=
  ⟨by decide, by decide, by decide, by decide, Or.inr rfl, rfl⟩

/-- The ports: a D partner with room and a full buffer, none; a U partner with room and a full buffer, none; the greatest
HOP and the one below it. -/
theorem test_ports_met :
    (at2 .running).ciu.dPartner = true ∧ (at2 .running).ciu.down.length < 2 ∧
      2 ≤ ((at2 .running).setCiu { (at2 .running).ciu with down := [.enum 3, .enum 4] }).ciu.down.length ∧
      State.reset.ciu.dPartner = false ∧ State.reset.ciu.uPartner = false ∧ (at2 .running).ciu.uPartner = true ∧
      (at2 .running).ciu.up.length < 2 ∧
      2 ≤ ((at2 .running).setCiu { (at2 .running).ciu with
        up := [{ origin := 3, brk := 0, payload := [] }, { origin := 4, brk := 0, payload := [] }] }).ciu.up.length ∧
      (at2 .running).ciu.address = some 2 ∧ (at2 .unaddressed).ciu.address = none ∧
      (DownFrame.enum 255).forwarded = .enum 255 ∧ (DownFrame.enum 254).forwarded = .enum 255 := by decide

/-- ENUM: the node states of each clause, HOP 15 and 16, a HOP that fits the address and one that does not. -/
theorem test_enum_met :
    EndsAtU (at2 .unaddressed) ∧ EndsAtU (at2 .standby) ∧ EndsAtU (at2 .running) ∧
      (at2 .unaddressed).ncu.state = .unaddressed ∧ (at2 .standby).ncu.state = .standby ∧ Operating (at2 .running) ∧
      (15 : Byte).toNat ≤ 15 ∧ 15 < (16 : Byte).toNat ∧ (at2 .running).ciu.address = some 2 ∧
      (1 : Byte).toNat + 1 = (2 : Byte).toNat ∧ (255 : Byte).toNat + 1 ≠ (2 : Byte).toNat :=
  ⟨⟨rfl, rfl⟩, ⟨rfl, rfl⟩, ⟨rfl, rfl⟩, rfl, rfl, Or.inr rfl, by decide, by decide, rfl, by decide, by decide⟩

/-- The link events' conditions: both transmitters sending, both partners there and both absent. -/
theorem test_link_events_met :
    (at2 .running).ciu.dTx = true ∧ (at2 .running).ciu.uTx = true ∧ (at2 .running).ciu.dPartner = true ∧
      (at2 .running).ciu.uPartner = true ∧ State.reset.ciu.dPartner = false ∧ State.reset.ciu.uPartner = false :=
  ⟨rfl, rfl, rfl, rfl, rfl, rfl⟩

set_option maxRecDepth 100000 in
/-- Received bytes of each kind; payloads at the room of the node at address 2 and one unit above it. -/
theorem test_receptions_met :
    hear [1, 2, 3] = .bad ∧ hear (DownFrame.enum 3).wire = .down (.enum 3) ∧
      hear (ReturnFrame.wire { origin := 3, brk := 0, payload := List.replicate 62 0x01000000 }) =
        .up { origin := 3, brk := 0, payload := List.replicate 62 0x01000000 } ∧
      hear (ReturnFrame.wire { origin := 3, brk := 0, payload := List.replicate 63 0x01000000 }) =
        .up { origin := 3, brk := 0, payload := List.replicate 63 0x01000000 } ∧
      (at2 .running).ciu.dRx = true ∧ EndsAtU (at2 .running) :=
  ⟨by decide, by decide, by decide, by decide, rfl, ⟨rfl, rfl⟩⟩

/-- A node whose awaited window is centred `d` ticks before node time. -/
def offsetBy (d : Time) (n : NodeState) : State := (at2 n).setCtu { (at2 n).ctu with nominal := 3000 - d }

/-- Candidates at the window's edges and just outside, on each side. -/
theorem test_window_places_met :
    InWindow (at2 .running) ∧ InWindow (offsetBy 50 .running) ∧ InWindow (offsetBy (-50) .syncing) ∧
      (50 : Int) < markOffset (offsetBy 51 .running) ∧ markOffset (offsetBy (-51) .running) < -50 ∧
      ¬InWindow (offsetBy 51 .syncing) := by
  unfold InWindow; decide

/-- CYCLE frames of each kind: a PERIOD of 1,999 and of 2,000; numbers ahead, behind and equal; every lock stage. -/
theorem test_cycle_frames_met :
    (1999 : Half).toNat < 2000 ∧ 2000 ≤ (2000 : Half).toNat ∧ (at2 .halted).ncu.state = .halted ∧
      32768 ≤ ((32769 : Half) - ((at2 .running).ctu.cycle + 1)).toNat ∧
      ((32768 : Half) - ((at2 .running).ctu.cycle + 1)).toNat ≤ 32767 ∧
      (1 ≤ ((32767 : Half) - (at2 .running).ctu.cycle).toNat ∧
        ((32767 : Half) - (at2 .running).ctu.cycle).toNat ≤ 32767) ∧
      32768 ≤ ((32768 : Half) - (at2 .running).ctu.cycle).toNat ∧
      ((0 : Half) - (at2 .running).ctu.cycle).toNat = 0 ∧ (at2 .syncing).ctu.lock = .firstSeen ∧
      (1 : Half) = (at2 .syncing).ctu.cycle + 1 ∧ (at2 .running).bks.pending = none := by decide

/-- The sample bank passes validation, and claims a leg's address, a strobe's address, and no other. -/
theorem test_claims_met :
    validate bank = none ∧ claimant bank 11 = some (.leg .l0) ∧ claimant bank 20 = some (.strobe .s0) ∧
      claimant bank 14 = none ∧ claimant bank 0 = none := by decide

/-- Entries: unclaimed, and claimed ones at the boundaries of each test of Table 14, with PERIOD 2,000: OFFSET 1,999 and
2,000; WIDTH 0, 1, 2,000 and 2,001; what the tests in front of the one that fails say. -/
theorem test_entries_met :
    claimant (at2 .running).activeBank 14 = none ∧ claimant (at2 .running).activeBank 11 = some (.leg .l0) ∧
      entryFault bank (.leg .l0) 2000 { pulseA with kind := .strobe, offset := 2000 } = some .kindMismatch ∧
      entryFault bank (.strobe .s0) 2000 pulseA = some .kindMismatch ∧
      entryFault bank (.leg .l1) 2000 { pulseA with target := .lower, offset := 2000 } = some .badTarget ∧
      entryFault bank (.leg .l0) 2000 { pulseA with target := .off, width := 0 } = some .badTarget ∧
      entryFault bank (.leg .l0) 2000 { pulseA with offset := 2000, width := 0 } = some .badOffset ∧
      entryFault bank (.leg .l0) 2000 { pulseA with offset := 1999, width := 0 } = some .badWidth ∧
      entryFault bank (.leg .l0) 2000 { pulseA with offset := 1999, width := 1 } = none ∧
      entryFault bank (.leg .l0) 2000 { pulseA with offset := 1999, width := 2000 } = none ∧
      entryFault bank (.leg .l0) 2000 { pulseA with offset := 1999, width := 2001 } = some .badWidth ∧
      entryFault bank (.leg .l0) 2000 { pulseA with kind := .centred, offset := 2000, width := 0 } = some .badWidth ∧
      entryFault bank (.leg .l0) 2000 { pulseA with kind := .centred, offset := 2000, width := 1 } = none ∧
      entryFault bank (.leg .l0) 2000 { pulseA with kind := .centred, width := 2000 } = none ∧
      entryFault bank (.leg .l0) 2000 { pulseA with kind := .centred, width := 2001 } = some .badWidth ∧
      entryFault bank (.strobe .s0) 2000 { pulseA with kind := .strobe, target := .off, width := 0 } = none := by decide

/-- The conditions of tests 1 to 4, each failed with those before it passed, and all passed. -/
theorem test_entry_tests_met :
    FailsKind (.leg .l0) { pulseA with kind := .strobe } ∧ ¬FailsKind (.leg .l1) { pulseA with target := .lower } ∧
      FailsTarget bank (.leg .l1) { pulseA with target := .lower } ∧ ¬FailsTarget bank (.leg .l0) pulseA ∧
      FailsOffset 2000 { pulseA with offset := 2000 } ∧ ¬FailsOffset 2000 { pulseA with offset := 1999 } ∧
      FailsWidth 2000 { pulseA with offset := 1999, width := 2001 } ∧
      ¬FailsWidth 2000 { pulseA with offset := 1999, width := 2000 } ∧ ¬FailsKind (.leg .l0) pulseA := by
  refine ⟨rfl, by unfold FailsKind; decide, Or.inl ⟨.l1, rfl, rfl, rfl⟩, ?_, by unfold FailsOffset; decide,
    by unfold FailsOffset; decide, by unfold FailsWidth; decide, by unfold FailsWidth; decide,
    by unfold FailsKind; decide⟩
  rintro (⟨l, hl, hm, ht⟩ | ⟨_, ht⟩) <;> cases ht

/-- The complements on a COMPLEMENTARY leg and on a SINGLE one. -/
theorem test_complements_met :
    complementWork bank (.leg .l0) .upper = .leg .l0 .lower ∧ complementWork bank (.leg .l0) .lower = .leg .l0 .upper ∧
      complementWork bank (.leg .l1) .upper = .leg .l1 .off ∧ (bank.legs.get .l0).mode = .complementary ∧
      (bank.legs.get .l1).mode = .single := by decide

/-- A running node with `count` schedule entries of leg 1 waiting, at as many due times. -/
def filled (count : Nat) : State :=
  (at2 .running).setSchedule
    ((List.range count).map fun i =>
      { due := 5010 + BitVec.ofNat 32 i, work := .leg .l1 .off, source := 0, part := .one })

/-- A PULSE entry of leg 0 is placed in a node whose schedule holds 62 entries, and rejected SCHEDULE-FULL where it holds 63
or 64; an entry that replaces one at its due time is placed in a full schedule. -/
theorem test_room_met :
    (decodeEntry 5000 0 2000 0 pulseA (filled 62)).esu.schedule.length = 64 ∧
      (decodeEntry 5000 0 2000 0 pulseA (filled 63)).rpu.queue =
        [{ seq := 0, body := .reject 0 0 .scheduleFull 11 }] ∧
      (decodeEntry 5000 0 2000 0 pulseA (filled 64)).esu = { (filled 64).esu with
        counters := { EntryCounters.zero with rejected := 1 } } ∧
      (decodeEntry 5000 0 2000 0 { pulseA with address := 12, kind := .drive, offset := 73 } (filled 64)).esu.counters =
        { EntryCounters.zero with placed := 1, superseded := 1 } := by decide

/-- A window that closes now, with misses below MISS-LIMIT by one step and at it, and a pending target that the mark does
not reach. -/
theorem test_window_closes_met :
    WindowCloses (offsetBy 50 .running) ∧ WindowCloses (offsetBy 50 .syncing) ∧
      (offsetBy 50 .running).ctu.misses + 1 < (offsetBy 50 .running).ctu.missLimit.toNat ∧
      (offsetBy 50 .running).ctu.missLimit.toNat ≤ 2 + 1 ∧ (offsetBy 50 .running).bks.pending = none ∧
      32768 ≤ ((offsetBy 50 .running).ctu.cycle + 1 - (2 : Half)).toNat :=
  ⟨⟨by decide, by decide⟩, ⟨by decide, by decide⟩, by decide, by decide, rfl,
    by decide⟩

/-- A node with a commit pending for cycle `target` that disables every leg, or, with `halt`, one whose channel 0 is ACTIVE
and becomes a HALT-NODE channel. -/
def swapping (target : Half) (halt : Bool) (s : State) : State :=
  let t := s.setBks { s.bks with
    bankB := if halt then { Bank.initial with prot := { Bank.initial.prot with c0 := entryB } } else Bank.initial
    pending := some target }
  if halt then (t.setFaultPin .c0 .low).setChannel .c0 .active else t

set_option maxRecDepth 100000 in
/-- A mark that reaches a pending target, one that passes it by 32,767, and one that does not reach it; the swap leaves the
node running, or halts it. -/
theorem test_mark_swaps_met :
    MarkSwaps 1 (swapping 1 false (offsetBy 50 .running)) ∧ MarkSwaps 1 (swapping 32770 false (offsetBy 50 .running)) ∧
      ¬MarkSwaps 1 (swapping 2 false (offsetBy 50 .running)) ∧ ¬MarkSwaps 1 (offsetBy 50 .running) ∧
      (swapBanks .targeted (swapping 1 false (offsetBy 50 .running))).ncu.state = .running ∧
      (swapBanks .targeted (swapping 1 true (offsetBy 50 .running))).ncu.state = .halted ∧
      WindowCloses (swapping 1 true (offsetBy 50 .running)) ∧ InWindow (swapping 1 true (offsetBy 50 .running)) := by
  refine ⟨⟨1, rfl, by decide⟩, ⟨32770, rfl, by decide⟩, ?_, ?_, by decide, by decide, ⟨by decide, by decide⟩,
    by unfold InWindow; decide⟩
  · rintro ⟨g, h, k⟩
    have e : g = 2 := by injection h with h; exact h.symm
    subst e; exact absurd k (by decide)
  · rintro ⟨g, h, _⟩; cases h

set_option maxRecDepth 100000 in
/-- At the mark that swaps, the node loads the new bank's parameters and finds the entry of a leg now disabled unclaimed; at
the mark whose swap halts it, nothing is decoded. -/
theorem test_marks_that_swap :
    (after (.cycle { number := 1, period := 2000, entries := [pulseA] })
        (swapping 1 false (offsetBy 50 .running))).esu.counters.unclaimed = 1 ∧
      (after (.cycle { number := 1, period := 2000, entries := [pulseA] })
        (swapping 1 true (offsetBy 50 .running))).esu.counters = EntryCounters.zero ∧
      (after .windowClose (swapping 1 true (offsetBy 50 .running))).ncu.state = .halted := by decide

/-- Legs with COAST OFF and HOLD in each condition the coast order tells apart. -/
theorem test_coast_met :
    ((at2 .running).legParams .l0).coast = .off ∧ ((at2 .running).legParams .l1).coast = .hold ∧
      ((leg0 (.on .upper 4990 none none none) (at2 .running)).leg .l0).cond = .on .upper 4990 none none none ∧
      ((leg0 (.gap .upper 5000 false) (at2 .running)).leg .l0).cond = .gap .upper 5000 false ∧
      ((at2 .running).leg .l0).cond.inert = true ∧
      ((leg0 (.safe (Causes.empty.add .confirm) .clamped (some .lower)) (at2 .running)).leg .l0).cond.isSafe = true := by
  decide

/-- Two entries due now in front of a later one; a strobe pulse that ends now; entries to discard and none. -/
theorem test_schedule_met :
    reached (at2 .running).now 5000 = true ∧ reached (at2 .running).now 5001 = false ∧
      (busy.setSchedule ([{ due := 5000, work := .leg .l0 .off, source := 0, part := .one },
        { due := 5000, work := .strobe .s0, source := 0, part := .one }] ++
          [{ due := 5001, work := .leg .l0 .upper, source := 0, part := .one }])).esu.schedule ≠ [] ∧
      busy.esu.schedule.filter (fun e => !(fun _ => false) e) ≠ [] ∧
      (at2 .running).esu.schedule.filter (fun e => !(fun _ => false) e) = [] ∧
      ∃ base : Half, ∀ e ∈ busy.esu.schedule, (e.source - base).toNat < 32768 :=
  ⟨by decide, by decide, by decide, by decide, by decide, ⟨0, by decide⟩⟩

/-- A leg that waits in GAP and one that settles, each at an end reached now, confirmed and not. -/
theorem test_waits_met :
    reached (at2 .running).now 5000 = true ∧
      ((leg0 (.gap .upper 5000 false) (at2 .running)).leg .l0).cond = .gap .upper 5000 false ∧
      ((leg0 (.safe (Causes.empty.add .confirm) (.settling 5000 false) (some .lower)) (at2 .running)).leg .l0).cond =
        .safe (Causes.empty.add .confirm) (.settling 5000 false) (some .lower) ∧
      ConfirmMet .l0 .upper (leg0 (.gap .upper 5000 false) (at2 .running)) ∧
      ¬ConfirmMet .l0 .upper ((leg0 (.gap .upper 5000 false) (at2 .running)).setMonitor .l0 .lower
        (.watching false 4990 5001)) := by
  refine ⟨by decide, rfl, rfl, Or.inr (fun c d h => by cases h), ?_⟩
  rintro (h | h)
  · exact absurd h (by decide)
  · exact h 4990 5001 rfl

/-- Legs whose MIN-ON-END and MAX-ON-END are reached now, with each OVERLONG-ACTION. -/
theorem test_on_time_ends_met :
    ((leg0 (.on .upper 4990 (some 5000) none (some .lower)) (at2 .running)).leg .l0).cond =
        .on .upper 4990 (some 5000) none (some .lower) ∧
      ((leg0 (.on .upper 4000 none (some 5000) none) (at2 .running)).leg .l0).cond = .on .upper 4000 none (some 5000) none ∧
      reached (at2 .running).now 5000 = true ∧ ((at2 .running).legParams .l0).overlongAction = .off ∧
      ((at2 .running).legParams .l1).overlongAction = .trip := by decide

/-- A monitor that watches and one that filters, each at an end reached now; CONFIRM-ESCALATION LEG, and NODE in another
bank. -/
theorem test_failures_met :
    ((at2 .running).setMonitor .l0 .upper (.watching true 4990 5000)).monitor .l0 .upper = .watching true 4990 5000 ∧
      ((at2 .running).setMonitor .l0 .upper (.filtering 5000)).monitor .l0 .upper = .filtering 5000 ∧
      reached (at2 .running).now 5000 = true ∧ (at2 .running).nodeParams.confirmEscalation = .leg ∧
      ((at2 .running).setBks { Bks.initial with
        bankA := { bank with node := { bank.node with confirmEscalation := .node } } }).nodeParams.confirmEscalation =
          .node := by decide

/-- Feedback changes: the input of leg 0's upper switch rises at each state of its monitor, agreeing with the output and
not, DISAGREE-FILTER above 0 and 0; an open watch, commanded now and a tick ago; CAPTURE EDGES (0 and 2 EDGE records queued)
and OFF; CONFIRM-WINDOW above 0 and 0. -/
theorem test_feedback_changes_met :
    ((at2 .running).pins.feedback.get .l0).get .upper ≠ .high ∧
      ((at2 .running).setFeedbackPin .l0 .upper .high).feedbackOn .l0 .upper = true ∧
      (at2 .running).commanded .l0 .upper = false ∧ (at2 .standby).monitor .l0 .upper = .idle ∧
      (at2 .running).monitor .l0 .upper = .quiet ∧ ((at2 .running).legParams .l0).disagreeFilter ≠ 0 ∧
      ((at2 .running).legParams .l3).disagreeFilter = 0 ∧
      (leg0 (.on .upper 4990 none none none) (at2 .running)).commanded .l0 .upper = true ∧
      (at2 .running).now ≠ 4999 ∧ (at2 .running).now = 5000 ∧
      ((at2 .running).legParams .l0).capture = .edges ∧ (at2 .running).nodeParams.captureReports = true ∧
      (at2 .running).fbm.edgeCounts.get .l0 < 2 ∧
      2 ≤ (report (.edge .l0 .upper true 0 1) (report (.edge .l0 .upper true 0 1) (at2 .running))).fbm.edgeCounts.get .l0 ∧
      ((at2 .running).legParams .l2).capture = .off ∧ ((at2 .running).legParams .l2).confirmWindow ≠ 0 ∧
      ((at2 .running).legParams .l1).confirmWindow = 0 := by decide

/-- Leg 2 with its lower switch's watch for "off" open since `ago` ticks, in a condition. -/
def confirming (ago : Time) (c : LegCond) : State :=
  (((at2 .running).setFeedbackPin .l2 .lower .high).setLeg .l2 { cond := c, lastOff := 4990, rested := false }).setMonitor
    .l2 .lower (.watching false (5000 - ago) 5008)

/-- An open watch that expects "off" on leg 2's lower switch, whose input falls: with no turn-on waiting, with the leg
waiting in GAP for the upper switch at an end found reached, and with it waiting so in SETTLING. -/
theorem test_off_confirmations_met :
    (∀ w, ¬WaitsConfirm .l2 w (confirming 4 .off)) ∧ WaitsConfirm .l2 .upper (confirming 4 (.gap .upper 5000 true)) ∧
      WaitsConfirm .l2 .upper (confirming 4 (.safe (Causes.empty.add .confirm) (.settling 5000 true) (some .upper))) ∧
      (confirming 4 .off).monitor .l2 .lower = .watching false 4996 5008 ∧
      ((confirming 4 .off).setFeedbackPin .l2 .lower .low).feedbackOn .l2 .lower = false ∧
      (if ((at2 .running).legParams .l2).mode = .single then Switch.upper else otherSwitch .upper) = .lower := by
  refine ⟨?_, Or.inl ⟨5000, rfl⟩, Or.inr ⟨_, 5000, rfl⟩, rfl, by decide, by decide⟩
  rintro w (⟨e, h⟩ | ⟨cs, e, h⟩) <;> cases h

/-- A bank whose leg 2 captures edges. -/
def capturing (s : State) : State :=
  s.setBks { s.bks with bankA := { bank with legs := { bank.legs with l2 := { legC with capture := .edges } } } }

set_option maxRecDepth 100000 in
/-- The success that confirms "off" turns leg 2's waiting upper switch on, from GAP and from SETTLING, and the EDGE record
follows (R76); at the command instant the switch turns on and no record is made. -/
theorem test_off_confirmation_turns_on :
    (after (.feedbackInputChange .l2 .lower .low) (capturing (confirming 4 (.gap .upper 5000 true)))).commanded .l2 .upper =
        true ∧
      (after (.feedbackInputChange .l2 .lower .low) (capturing (confirming 4 (.gap .upper 5000 true)))).rpu.queue =
        [{ seq := 0, body := .edge .l2 .lower false 5000 4 }] ∧
      (after (.feedbackInputChange .l2 .lower .low)
          (capturing (confirming 4 (.safe (Causes.empty.add .confirm) (.settling 5000 true) (some .upper))))).commanded
        .l2 .upper = true ∧
      (after (.feedbackInputChange .l2 .lower .low) (capturing (confirming 0 (.gap .upper 5000 true)))).rpu.queue = [] := by
  decide

/-- Leg 2 conducting its upper switch with the watch for "on" still open. -/
def watched : State :=
  ((at2 .running).setLeg .l2 { cond := .on .upper 4998 none none none, lastOff := 4990, rested := false }).setMonitor .l2
    .upper (.watching true 4998 5006)

/-- A request, a force and a cause that turn that switch off replace the watch, and "watches replaced" is 1; with no watch
open it stays 0. -/
theorem test_watches_replaced :
    watchReplaced .l2 .upper watched (requestLeg .l2 .off watched) = true ∧
      (requestLeg .l2 .lower watched).fbm.counters.watchesReplaced = 1 ∧
      (forceLeg .c0 .l2 watched).fbm.counters.watchesReplaced = 1 ∧
      (addCause .l2 .nodeHalt true watched).fbm.counters.watchesReplaced = 1 ∧
      (requestLeg .l2 .off (watched.setMonitor .l2 .upper .quiet)).fbm.counters.watchesReplaced = 0 := by decide

/-- Fault inputs: an ACTIVE entry that reads deasserted, with QUALIFY above 0, FAST on and off; one that reads asserted,
LATCHED and AUTO; deadlines reached now, for each ACTION. -/
theorem test_fault_inputs_met :
    ((at2 .running).protParams .c0).use = .active ∧ (at2 .running).faultAsserted .c0 = false ∧
      ((at2 .running).protParams .c2).qualify = 0 ∧
      ((at2 .running).setFaultPin .c0 .low).faultAsserted .c0 = true ∧ ((at2 .running).protParams .c0).qualify ≠ 0 ∧
      ((at2 .running).protParams .c0).fast = true ∧ ((at2 .running).protParams .c1).fast = false ∧
      ((at2 .running).protParams .c0).latch = .auto ∧ ((at2 .running).protParams .c1).latch = .latched ∧
      ((at2 .running).protParams .c0).action = .tripLegs ∧ ((at2 .running).protParams .c1).action = .haltNode ∧
      (at2 .running).channel .c0 = .idle ∧
      ((at2 .running).setChannel .c0 (.holding 5000)).channel .c0 = .holding 5000 ∧
      ((at2 .running).setChannel .c1 (.qualifying 5000 false LegSet.empty)).channel .c1 =
        .qualifying 5000 false LegSet.empty ∧
      reached (at2 .running).now 5000 = true ∧ ((Causes.empty.add (.fi .c0)).remove (.fi .c0)).isEmpty = true ∧
      (((Causes.empty.add .confirm).add (.fi .c0)).remove (.fi .c0)).isEmpty = false := by decide

/-- Channel 1, whose ACTION is HALT-NODE, qualifies in each node state; in UNADDRESSED it has forced leg 3, which is
DISABLED; a deadline reached now. -/
theorem test_halting_trips_met :
    (∀ n, ((at2 n).setChannel .c1 (.qualifying 5000 false LegSet.empty)).channel .c1 =
        .qualifying 5000 false LegSet.empty) ∧
      (∀ n, ((at2 n).protParams .c1).action = .haltNode) ∧ (at2 .unaddressed).ncu.state = .unaddressed ∧
      (at2 .standby).ncu.state ≠ .unaddressed ∧ (at2 .unaddressed).legEnabled .l3 = false ∧
      ((at2 .unaddressed).leg .l0).cond.isSafe = false ∧ (LegSet.ofByte 8).get .l3 = true :=
  ⟨fun _ => rfl, fun _ => rfl, rfl, by decide, rfl, rfl, rfl⟩

/-- The state after channel 1's deadline in a node state. -/
def tripped (n : NodeState) : State :=
  after (.qualifyDeadline .c1) ((at2 n).setChannel .c1 (.qualifying 5000 false LegSet.empty))

set_option maxRecDepth 100000 in
/-- A HALT-NODE trip in STANDBY and RUNNING: the TRIP record, then the HALT record; in UNADDRESSED the TRIP record alone,
and leg 0 in SAFE with cause FI1 in phase OPEN (R97). -/
theorem test_halting_trips :
    (tripped .standby).rpu.queue.map Record.body =
        [.trip .c1 .haltNode .qualified (LegSet.ofByte 7) 5000,
          .halt (.fault .c1) (HaltSet.empty.add (.fault .c1)) .standby 5000] ∧
      (tripped .running).rpu.queue.map Record.body =
        [.trip .c1 .haltNode .qualified (LegSet.ofByte 7) 5000,
          .halt (.fault .c1) (HaltSet.empty.add (.fault .c1)) .running 5000] ∧
      (tripped .unaddressed).rpu.queue.map Record.body = [.trip .c1 .haltNode .qualified (LegSet.ofByte 7) 5000] ∧
      ((tripped .unaddressed).leg .l0).cond = .safe (Causes.empty.add (.fi .c1)) .opened (some .lower) := by decide

/-- Any request for address 2 is fresh at the sample node in every addressed state. -/
theorem fresh_at2 (n : NodeState) (r : Request) (s : State) (hn : n ≠ .unaddressed) (hc : s.ciu = (at2 n).ciu)
    (hm : s.mgu = Mgu.initial) : FreshRequest head r s := by
  refine ⟨?_, ⟨2, ?_, Or.inr rfl⟩, ?_⟩
  · rw [EndsAtU, hc]; exact ⟨rfl, rfl⟩
  · rw [hc]; cases n <;> first | rfl | exact absurd rfl hn
  · intro x h; rw [hm] at h; cases h

/-- ECHO of 0 and 3 units, STATUS, COUNTERS, READ, WRITE, COPY, CANCEL, FLUSH, CLEAR and RESTART at an addressed node. -/
theorem test_requests_met :
    (∀ r, FreshRequest head r (at2 .standby)) ∧ (∀ r, FreshRequest head r (committing .running)) ∧
      (at2 .standby).ncu.state ≠ .unaddressed ∧ ([] : List Quad).length ≤ 3 ∧ ([1, 2, 3] : List Quad).length ≤ 3 ∧
      (at2 .standby).ciu.address = some 2 ∧ (committing .running).bks.pending = some 905 ∧
      (at2 .standby).bks.pending = none ∧ (63 : Byte).toNat < 64 ∧ 64 ≤ (64 : Byte).toNat ∧
      (∀ n, (at2 .standby).faultAsserted n = false) ∧ ((at2 .standby).setFaultPin .c0 .low).faultAsserted .c0 = true :=
  ⟨fun r => fresh_at2 .standby r _ (by decide) rfl rfl, fun r => fresh_at2 .running r _ (by decide) rfl rfl, by decide,
    by decide, by decide, rfl, rfl, rfl, by decide, by decide, fun n => by cases n <;> decide, by decide⟩

/-- A STANDBY node whose channel `n` reads asserted, with `qualify` for its QUALIFY and FAST. -/
def faulted (n : ChanId) (qualify : Byte) : State :=
  ((at2 .standby).setBks { Bks.initial with
    bankA := { bank with prot := bank.prot.set n { bank.prot.get n with fast := true, qualify := qualify } } }).setFaultPin n
      .low

/-- RESTART with one input asserted: QUALIFY 0 and above it, TRIP-LEGS and HALT-NODE; legs forced and not. -/
theorem test_restarts_met :
    (faulted .c0 0).faultAsserted .c0 = true ∧ (∀ k, k ≠ ChanId.c0 → (faulted .c0 0).faultAsserted k = false) ∧
      ((faulted .c0 0).protParams .c0).qualify = 0 ∧ ((faulted .c0 3).protParams .c0).qualify ≠ 0 ∧
      ((faulted .c0 0).protParams .c0).action = .tripLegs ∧ ((faulted .c1 0).protParams .c1).action = .haltNode ∧
      FastForces .c0 .l0 (faulted .c0 3) ∧ ¬FastForces .c0 .l2 (faulted .c0 3) ∧
      (faulted .c0 3).legEnabled .l0 = true ∧ FreshRequest head .restart (faulted .c0 3) := by
  refine ⟨rfl, fun k h => ?_, rfl, by decide, rfl, rfl, ⟨rfl, rfl⟩, fun h => absurd (show (LegSet.ofByte 3).get .l2 = true from h.2) (by decide), rfl,
    fresh_at2 .standby _ _ (by decide) rfl rfl⟩
  cases k <;> first | rfl | exact absurd rfl h

set_option maxRecDepth 100000 in
/-- After a RESTART: QUALIFY 0 trips behind the response, with legs 0 and 1 in SAFE, or halts the node; above 0 the legs of
a FAST channel are HELD-OFF (R93, R97, R109, R124). -/
theorem test_restarts :
    (after (.restart head) (faulted .c0 0)).rpu.queue.map Record.body =
        [.response 7 14 .done [], .trip .c0 .tripLegs .qualified (LegSet.ofByte 3) 5000] ∧
      ((after (.restart head) (faulted .c0 0)).leg .l0).cond =
        .safe (Causes.empty.add (.fi .c0)) .opened (some .lower) ∧
      (after (.restart head) (faulted .c1 0)).ncu.state = .halted ∧
      ((after (.restart head) (faulted .c0 3)).leg .l0).cond = .heldOff (ChanSet.single .c0) ∧
      ((after (.restart head) (faulted .c0 3)).leg .l2).cond = .off := by decide

/-- A MANAGE frame for another node, a retransmission, and a request in each state that does not admit it. -/
theorem test_judging_met :
    (∀ a, (at2 .standby).ciu.address = some a → (3 : Byte) ≠ 0 ∧ (3 : Byte) ≠ a) ∧
      ((at2 .standby).setMgu { Mgu.initial with
        store := some { seq := 7, code := 8, status := .done, data := [] } }).mgu.store =
          some { seq := head.seq, code := Request.cancel.code, status := .done, data := [] } ∧
      (at2 .running).ncu.state ≠ .standby ∧ ¬Operating (at2 .halted) ∧ (at2 .standby).ncu.state ≠ .halted ∧
      EndsAtU (at2 .standby) ∧ (Instr.unknown head .code15 []).wellFormed = true ∧
      (Instr.arm head).downFrame = some (.manage head .arm) ∧
      (∀ r, FreshRequest head r (at2 .halted)) ∧ ∀ r, FreshRequest head r (at2 .running) := by
  refine ⟨?_, rfl, by decide, ?_, by decide, ⟨rfl, rfl⟩, rfl, rfl, fun r => fresh_at2 .halted r _ (by decide) rfl rfl,
    fun r => fresh_at2 .running r _ (by decide) rfl rfl⟩
  · intro a h
    have e : a = 2 := by injection h with h; exact h.symm
    subst e; decide
  · rintro (h | h) <;> cases h

/-- COUNTERS: the last pages and the ones beyond; a snapshot of another group and of the group asked for. -/
theorem test_counters_met :
    3 < (4 : Byte).toNat ∧ 1 < (2 : Byte).toNat ∧ 2 < (3 : Byte).toNat ∧ 3 < (4 : Byte).toNat ∧
      ((Snapshot.link LinkCounters.zero 0).page 1).isSome = true ∧
      ((Snapshot.timing TimingCounters.zero).page 1).isSome = true ∧
      ((Snapshot.entries EntryCounters.zero LegCounters.zero FeedbackCounters.zero ProtCounters.zero).page 2).isSome =
        true ∧
      ((Snapshot.accounting accountingZero).page 3).isSome = true ∧
      (Snapshot.timing TimingCounters.zero).group ≠ 0 ∧ (Snapshot.link LinkCounters.zero 0).group = 0 ∧
      State.reset.mgu.snapshot = none := by decide

/-- READ and WRITE: the last index of every table and the one beyond it; for each table a record at the bounds of its
ranges, and one out of them. -/
theorem test_read_write_met :
    recordOf 0 5 = some (.leg .l5) ∧ recordOf 0 6 = none ∧ recordOf 1 1 = some (.strobe .s1) ∧ recordOf 1 2 = none ∧
      recordOf 2 3 = some (.prot .c3) ∧ recordOf 2 4 = none ∧ recordOf 3 0 = some .node ∧ recordOf 3 1 = none ∧
      recordOf 4 0 = none ∧ writeLengthOk 1 [250, 1, 0, 0].length = true ∧
      (writeRecord bank (.strobe .s0) [250, 1, 0, 0]).isSome = true ∧
      writeRecord bank (.strobe .s0) [251, 1, 0, 0] = none ∧ writeRecord bank (.strobe .s0) [250, 0, 0, 0] = none ∧
      (writeRecord bank (.leg .l5) (encodeLegRecord legA)).isSome = true ∧
      writeRecord bank (.leg .l5) (List.replicate 16 255) = none ∧
      (writeRecord bank (.prot .c3) [0, 0, 63, 0, 0, 1, 0, 0]).isSome = true ∧
      writeRecord bank (.prot .c3) [0, 0, 64, 0, 0, 1, 0, 0] = none ∧
      (writeRecord bank .node [3, 255, 15, 3, 255, 255, 0, 0]).isSome = true ∧
      writeRecord bank .node [3, 255, 16, 3, 255, 255, 0, 0] = none := by decide

/-- A READ of leg 0 from each bank answers with that bank's record, 4 units whose bytes Table 53 gives; a WRITE of strobe 1
shows in the shadow's strobe 1 and leaves its strobe 0 and the active bank. -/
theorem test_read_and_write :
    (after (.read head 0 0 0) (at2 .standby)).mgu.store.map Stored.data =
        some [0x010B000A, 0x00140005, 0x000003E8, 0x0008043A] ∧
      (after (.read head 1 0 0) (at2 .standby)).mgu.store.map Stored.data = some [0x00000064, 0x00640000, 0, 0x00000010] ∧
      (after (.write head 1 1 [250, 1, 7, 7]) (at2 .standby)).shadowBank =
        { Bank.initial with strobes := { Bank.initial.strobes with s1 := { address := 250, pulseWidth := 1 } } } ∧
      (after (.write head 1 1 [250, 1, 7, 7]) (at2 .standby)).activeBank = bank := by decide

/-- Banks that fail each check, V1 at a leg and at a strobe, and the reason and record that validation names; a bank that
fails V2 at leg 0 and V1 at leg 4 is named for V1. -/
theorem test_validation_met :
    validate { bank with legs := { bank.legs with l4 := legA, l0 := legA } } = some (1, .leg .l4) ∧
      validate { bank with strobes := { s0 := { address := 20, pulseWidth := 9 }, s1 := { address := 20, pulseWidth := 9 } } } =
        some (1, .strobe .s1) ∧
      validate { bank with legs := { bank.legs with l0 := { legA with address := 0 } } } = some (2, .leg .l0) ∧
      validate { bank with legs := { bank.legs with l0 := { legA with address := 0 }, l4 := legB } } = some (1, .leg .l4) ∧
      validate { bank with legs := { bank.legs with l1 := { legB with safeState := .clampLower } } } = some (3, .leg .l1) ∧
      validate { bank with legs := { bank.legs with l0 := { legA with minOn := 1000 } } } = some (4, .leg .l0) ∧
      validate { bank with legs := { bank.legs with l0 := { legA with minOn := 999 } } } = none ∧
      validate { bank with legs := { bank.legs with l0 := { legA with confirmWindow := 0 } } } = some (5, .leg .l0) ∧
      validate { bank with prot := { bank.prot with c0 := { entryA with legs := LegSet.empty } } } = some (6, .prot .c0) ∧
      validate { bank with prot := { bank.prot with c0 := { entryA with legs := LegSet.ofByte 8 } } } =
        some (6, .prot .c0) ∧
      validate { bank with prot := { bank.prot with c1 := { entryB with latch := .auto } } } = some (7, .prot .c1) := by
  decide

/-- COMMIT: targets 0, 1, 1,024 and 1,025 cycles ahead; a shadow that passes validation and one that fails; the node states
of each form. -/
theorem test_commits_met :
    ((0 : Half) - (at2 .running).ctu.cycle).toNat = 0 ∧ 1 ≤ ((1 : Half) - (at2 .running).ctu.cycle).toNat ∧
      ((1024 : Half) - (at2 .running).ctu.cycle).toNat ≤ 1024 ∧
      1024 < ((1025 : Half) - (at2 .running).ctu.cycle).toNat ∧ validate (at2 .running).shadowBank = none ∧
      validate ((at2 .running).setBks { (at2 .running).bks with
        bankB := { bank with legs := { bank.legs with l3 := legA } } }).shadowBank = some (1, .leg .l3) ∧
      (at2 .standby).ncu.state = .standby ∧ (committing .standby).bks.pending.isSome = true ∧
      (at2 .running).bks.active = .a := by decide

/-- A swap that disables legs 0 to 2, one that enables them, and a commit check whose target is reached and is not. -/
theorem test_swaps_met :
    (at2 .running).legEnabled .l0 = true ∧ ((at2 .running).shadowBank.legs.get .l0).mode.enabled = false ∧
      ((at2 .running).setBks { (at2 .running).bks with active := .b }).legEnabled .l0 = false ∧
      (((at2 .running).setBks { (at2 .running).bks with active := .b }).shadowBank.legs.get .l0).mode.enabled = true ∧
      (leg0 (.on .upper 4990 none none none) (at2 .running)).commanded .l0 .upper = true ∧
      ((905 : Half) - 905).toNat ≤ 32767 ∧ 32768 ≤ ((904 : Half) - 905).toNat ∧
      (committing .running).bks.pending = some 905 := by decide

/-- The bank with leg 0 SINGLE, leg 1 COMPLEMENTARY, and channel 0 with HALT-NODE for its ACTION. -/
def remoded : Bank :=
  { bank with
    legs := { bank.legs with l0 := { legA with mode := .single, safeState := .allOff }, l1 := { legB with mode := .complementary } }
    prot := { bank.prot with c0 := { entryA with action := .haltNode, latch := .latched } } }

/-- A running node whose shadow is that bank, with leg 0 in a condition. -/
def remoding (c : LegCond) : State := leg0 c ((at2 .running).setBks { Bks.initial with bankA := bank, bankB := remoded })

set_option maxRecDepth 100000 in
/-- A leg re-moded to SINGLE: from LOWER, from a gap toward LOWER, with a DEFERRED request, and with a lower clamp on; a leg
re-moded to COMPLEMENTARY; the lower monitor of each. -/
theorem test_re_modes_met :
    ((swapBanks .targeted (remoding (.on .lower 4990 none none none))).leg .l0) =
        { cond := .off, lastOff := 5000, rested := false } ∧
      ((swapBanks .targeted (remoding (.gap .lower 5010 false))).leg .l0).cond = .off ∧
      ((swapBanks .targeted (remoding (.on .upper 4990 (some 5010) none (some .lower)))).leg .l0).cond =
        .on .upper 4990 (some 5010) none none ∧
      ((swapBanks .targeted (remoding (.safe (Causes.empty.add .confirm) .clamped (some .lower)))).leg .l0).cond =
        .safe (Causes.empty.add .confirm) .opened (some .lower) ∧
      (swapBanks .targeted (remoding (.on .lower 4990 none none none))).monitor .l0 .lower = .idle ∧
      (bank.legs.get .l0).mode = .complementary ∧ (remoded.legs.get .l0).mode = .single ∧
      (bank.legs.get .l1).mode = .single ∧ (remoded.legs.get .l1).mode = .complementary := by decide

set_option maxRecDepth 100000 in
/-- The records of a swap in their order: COMMIT-DONE, the DISCARD of a leg disabled, and the GLITCH of a channel whose entry
changes; the monitors of the legs disabled are IDLE. -/
theorem test_swap_records :
    (swapBanks .targeted ((busy.setBks { busy.bks with bankB := Bank.initial }).setRpu Rpu.initial)).rpu.queue.map Record.body =
        [.commitDone .targeted .b 0, .discard .swap 1 0 0, .glitch .c0 .entryChanged LegSet.empty 5000] ∧
      (swapBanks .targeted busy).monitor .l0 .upper = .idle := by decide

/-- Channels at a swap: idle, qualifying, holding and active, the new entry reading asserted and not; a FAST HALT-NODE
channel qualifying. -/
theorem test_swap_channels_met :
    (at2 .running).channel .c0 = .idle ∧
      ((at2 .running).setChannel .c0 (.qualifying 5003 true LegSet.empty)).channel .c0 = .qualifying 5003 true LegSet.empty ∧
      ((at2 .running).setChannel .c0 (.holding 5003)).channel .c0 = .holding 5003 ∧
      ((at2 .running).setChannel .c0 .active).channel .c0 = .active ∧ (at2 .running).faultAsserted .c0 = false ∧
      ((at2 .running).setFaultPin .c0 .low).faultAsserted .c0 = true ∧
      ((at2 .running).protParams .c0).action = .tripLegs ∧ ((at2 .running).protParams .c1).action = .haltNode ∧
      (remoding .off).activeBank.prot.c0.action ≠ (remoding .off).shadowBank.prot.c0.action := by decide

/-- Monitored sides: both switches of a COMPLEMENTARY leg, the upper one of a SINGLE leg, none of a DISABLED one. -/
theorem test_monitored_sides_met :
    MonitoredSide .complementary .lower ∧ MonitoredSide .single .upper ∧ ¬MonitoredSide .single .lower ∧
      ¬MonitoredSide .disabled .upper ∧ Operating (at2 .running) ∧ (legA.confirmWindow ≠ 0 ∧ legB.confirmWindow = 0) := by
  refine ⟨Or.inl rfl, Or.inr ⟨rfl, rfl⟩, ?_, ?_, Or.inr rfl, by decide⟩ <;> unfold MonitoredSide <;> decide

/-- ARM with a leg in SAFE and with none; DISARM in SYNCING and RUNNING; the node is consistent in each. -/
theorem test_arm_and_disarm_met :
    (∀ n, n ≠ NodeState.unaddressed → NodeConsistent (at2 n)) ∧
      (∃ l, ((leg0 (.safe (Causes.empty.add .confirm) .opened none) (at2 .standby)).leg l).cond.isSafe = true) ∧
      (∀ l, ((at2 .standby).leg l).cond.isSafe = false) ∧
      (∀ l sw, (at2 .standby).feedbackOn l sw = (at2 .standby).commanded l sw) ∧
      ((at2 .standby).setFeedbackPin .l0 .upper .high).feedbackOn .l0 .upper ≠
        ((at2 .standby).setFeedbackPin .l0 .upper .high).commanded .l0 .upper ∧
      Operating (at2 .syncing) ∧ Operating (at2 .running) := by
  refine ⟨?_, ⟨.l0, rfl⟩, fun l => by cases l <;> rfl, fun l sw => by cases l <;> cases sw <;> rfl, by decide,
    Or.inl rfl, Or.inr rfl⟩
  intro n h
  have ha : ∀ a, (at2 n).ciu.address = some a → 1 ≤ a.toNat ∧ a.toNat ≤ 16 := by
    intro a e
    have e : a = 2 := by
      cases n <;> first | exact absurd rfl h | (injection e with e; exact e.symm)
    subst e; decide
  refine ⟨?_, ?_, ha, ?_, (fun e => by cases e), fun _ => ⟨rfl, rfl⟩, ?_⟩
  · cases n <;> decide
  · cases n <;> first | exact absurd rfl h | decide
  · cases n <;> first | exact absurd rfl h | rfl | (intro e; cases e)
  · cases n <;> first | (intro; rfl) | (intro e; cases e)

/-- CLEAR and RESUME: a leg with a removable cause alone, one with NODE-HALT as well, a channel that is quiet and one that is
not, a FAULT-n halt cause that is removable and one that is not. -/
theorem test_clear_and_resume_met :
    (63 : Byte).toNat < 64 ∧ 64 ≤ (64 : Byte).toNat ∧
      ((leg0 (.safe (Causes.empty.add .confirm) .clamped (some .lower)) (at2 .halted)).leg .l0).cond =
        .safe (Causes.empty.add .confirm) .clamped (some .lower) ∧
      Causes.empty.isEmpty = true ∧ (Causes.empty.add .nodeHalt).isEmpty = false ∧
      (63 : Byte).getLsbD (legIndex .l0) = true ∧ (0 : Byte).getLsbD (legIndex .l0) = false ∧
      (at2 .halted).channel .c0 = .idle ∧ (at2 .halted).faultAsserted .c0 = false ∧
      ((at2 .halted).setFaultPin .c0 .low).faultAsserted .c0 = true ∧ (at2 .halted).ncu.state = .halted ∧
      HaltSet.empty.isEmpty = true ∧ (HaltSet.empty.add (.fault .c0)).isEmpty = false ∧
      (at2 .halted).ncu.causes.fault.get .c0 = false ∧
      (((Causes.empty.add .nodeHalt).add .confirm).remove .nodeHalt).isEmpty = false ∧
      ((Causes.empty.add .nodeHalt).remove .nodeHalt).isEmpty = true := by decide

end Sys2Proof.Tests
end

section
/-! PROOF. Which requests the Leg Engine refuses (R27), and the counter a request that it accepts leaves alone. -/

namespace Sys2Proof.Machine

/-! ### A commanded change and the LGE's state -/

@[simp] theorem lge_setMonitor (l : LegId) (sw : Switch) (m : Monitor) (s : State) :
    (s.setMonitor l sw m).lge = s.lge := rfl

/-- The FBM's answer to a commanded change (R75) does not touch the LGE. -/
@[simp] theorem lge_fbmCommand (l : LegId) (sw : Switch) (v : Bool) (s : State) : (fbmCommand l sw v s).lge = s.lge := by
  unfold fbmCommand
  split
  · rfl
  · split
    · rfl
    · dsimp only [lge_setMonitor]
      split <;> rfl

@[simp] theorem lge_reportChange (l : LegId) (sw : Switch) (b : Bool) (s : State) :
    (reportChange l sw b s).lge = s.lge := by
  unfold reportChange
  split
  · rfl
  · exact lge_fbmCommand l sw _ s

/-- As far as the LGE goes, a reported replacement of a leg record is a plain one. -/
@[simp] theorem lge_putLeg (l : LegId) (x : Leg) (s : State) : (putLeg l x s).lge = (s.setLeg l x).lge := by
  simp [putLeg]

@[simp] theorem legCounters_setLeg (l : LegId) (x : Leg) (s : State) :
    (s.setLeg l x).lge.counters = s.lge.counters := rfl

@[simp] theorem legCounters_judgeLeg (l : LegId) (s : State) : (judgeLeg l s).lge.counters = s.lge.counters := by
  unfold judgeLeg
  dsimp only
  split
  · split <;> simp
  · split <;> simp
  · rfl

/-! ### What a request that is not refused counts -/

@[simp] theorem legCounters_requestTurnOn (l : LegId) (sw : Switch) (s : State) :
    (requestTurnOn l sw s).lge.counters = s.lge.counters := by
  simp [requestTurnOn]

@[simp] theorem legCounters_requestElapsed (l : LegId) (side : Switch) (t : Target) (s : State) :
    (requestElapsed l side t s).lge.counters = s.lge.counters := by
  unfold requestElapsed
  split
  · simp
  · split <;> simp

/-- A deferred request may count "deferred replaced" (R30), never "requests refused". -/
@[simp] theorem refused_requestDeferred (l : LegId) (side : Switch) (onSince minEnd : Time) (maxEnd : Option Time)
    (deferred : Option Target) (t : Target) (s : State) :
    (requestDeferred l side onSince minEnd maxEnd deferred t s).lge.counters.refused = s.lge.counters.refused := by
  cases deferred <;> rfl

/-! ### When a request is refused -/

theorem modeRefuses_iff (m : LegMode) (t : Target) :
    modeRefuses m t = true ↔ m = .disabled ∨ (m = .single ∧ t = .lower) := by
  cases m <;> simp [modeRefuses]

theorem requestLeg_of_modeRefuses {l : LegId} {t : Target} {s : State}
    (hm : modeRefuses (s.legParams l).mode t = true) : requestLeg l t s = refuseRequest s := by
  simp [requestLeg, hm]

theorem requestLeg_of_heldOff {l : LegId} {s : State} {h : ChanSet} (hc : (s.leg l).cond = .heldOff h) (t : Target) :
    requestLeg l t s = refuseRequest s := by
  simp [requestLeg, hc]

theorem requestLeg_of_safe {l : LegId} {s : State} {cs : Causes} {p : SafePhase} {k : Option Switch}
    (hc : (s.leg l).cond = .safe cs p k) (t : Target) : requestLeg l t s = refuseRequest s := by
  simp [requestLeg, hc]

/-- A request that mode and condition admit leaves "requests refused" as it is (R27 to R31). -/
theorem refused_requestLeg_of_admitted {l : LegId} {t : Target} {s : State}
    (hheld : ∀ h, (s.leg l).cond ≠ .heldOff h) (hsafe : ∀ cs p k, (s.leg l).cond ≠ .safe cs p k)
    (hmode : ¬ modeRefuses (s.legParams l).mode t = true) :
    (requestLeg l t s).lge.counters.refused = s.lge.counters.refused := by
  unfold requestLeg
  rw [if_neg hmode]
  cases hc : (s.leg l).cond with
  | heldOff h => exact absurd hc (hheld h)
  | safe cs p k => exact absurd hc (hsafe cs p k)
  | off => cases targetSwitch t <;> simp
  | gap pending gapEnd reached => cases targetSwitch t <;> simp
  | on side onSince minEnd maxEnd deferred => cases minEnd <;> simp

/-- Settles O19: each reason of R27 leads to `refuseRequest`, and every other branch of a request leaves the counter. -/
theorem requestsRefused : Obligations.RequestsRefused := by
  intro l t s
  refine ⟨?_, fun hheld hsafe hdis hlow => ?_⟩
  · rintro (⟨h, hc⟩ | ⟨cs, p, k, hc⟩ | hmode)
    · exact requestLeg_of_heldOff hc t
    · exact requestLeg_of_safe hc t
    · exact requestLeg_of_modeRefuses ((modeRefuses_iff _ t).2 hmode)
  · have hmode : ¬ modeRefuses (s.legParams l).mode t = true := fun hr => ((modeRefuses_iff _ t).1 hr).elim hdis hlow
    exact refused_requestLeg_of_admitted hheld hsafe hmode

end Sys2Proof.Machine
end

section
/-! PROOF. What a withdraw order does to a leg (R41). -/

namespace Sys2Proof.Machine

/-! ### Sets of channels -/

theorem ChanSet.isEmpty_iff (v : ChanSet) : v.isEmpty = true ↔ ∀ n, v.get n = false := by
  refine ⟨fun h n => ?_, fun h => by simp [ChanSet.isEmpty, h]⟩
  have hmem : n ∈ allChans := by cases n <;> decide
  simpa using List.all_eq_true.1 h n hmem

/-- Removing one channel empties a set exactly when the set holds no other. -/
theorem ChanSet.isEmpty_set_false_iff (v : ChanSet) (n : ChanId) :
    ChanSet.isEmpty (v.set n false) = true ↔ ∀ k, k ≠ n → v.get k = false := by
  simp [ChanSet.isEmpty_iff, PerChan.get_set]

/-! ### The order on one leg -/

theorem withdrawLeg_of_held {n : ChanId} {l : LegId} {s : State} {h : ChanSet} (hc : (s.leg l).cond = .heldOff h)
    (hn : h.get n = true) : withdrawLeg n l s = s.setLeg l { s.leg l with cond := heldOrOff (h.set n false) } := by
  simp [withdrawLeg, hc, hn]

/-- A leg that the channel does not hold is left as it is. -/
theorem withdrawLeg_of_not_held {n : ChanId} {l : LegId} {s : State}
    (hn : ∀ h, (s.leg l).cond = .heldOff h → h.get n = false) : withdrawLeg n l s = s := by
  unfold withdrawLeg
  cases hc : (s.leg l).cond with
  | heldOff h => simp [hn h hc]
  | off => rfl
  | on side onSince minEnd maxEnd deferred => rfl
  | gap pending gapEnd reached => rfl
  | safe cs p k => rfl

/-- Settles O23: the leg becomes `heldOrOff` of the channels left, which turns on whether another channel holds it. -/
theorem withdrawReleasesTheLeg : Obligations.WithdrawReleasesTheLeg := by
  intro n l s
  refine ⟨fun h hc hn => ?_, withdrawLeg_of_not_held⟩
  rw [withdrawLeg_of_held hc hn]
  refine ⟨fun hnone => ?_, fun ⟨k, hk, hheld⟩ => ?_⟩
  · have hempty := (ChanSet.isEmpty_set_false_iff h n).2 hnone
    rw [heldOrOff, if_pos hempty]
  · have hmore : ¬ ChanSet.isEmpty (h.set n false) = true := fun hempty => by
      simp [(ChanSet.isEmpty_set_false_iff h n).1 hempty k hk] at hheld
    rw [heldOrOff, if_neg hmore]

end Sys2Proof.Machine
end

section
/-! PROOF. What a MANAGE frame for this node comes to (R170, R177, R178): a fresh request that the node state admits is
answered by its own rule, a retransmission from the response store, and the frame is passed on. -/

namespace Sys2Proof.Machine

@[simp] theorem bks_endReceptionU (s : State) : (endReceptionU s).bks = s.bks := rfl

theorem forThisNode_of_dest {h : ManageHead} {s : State} {a : Byte} (ha : s.ciu.address = some a)
    (hd : h.dest = 0 ∨ h.dest = a) : forThisNode h s = true := by
  rw [forThisNode, ha]
  exact decide_eq_true hd

theorem storedFor_of_match {h : ManageHead} {r : Request} {s : State} {x : Stored} (hx : s.mgu.store = some x)
    (hseq : x.seq = h.seq) (hcode : x.code = r.code) : storedFor h r s = some x := by
  simp [storedFor, hx, hseq, hcode]

theorem storedFor_of_no_match {h : ManageHead} {r : Request} {s : State}
    (hfresh : ∀ x, s.mgu.store = some x → ¬(x.seq = h.seq ∧ x.code = r.code)) : storedFor h r s = none := by
  unfold storedFor
  cases hx : s.mgu.store with
  | none => rfl
  | some x => exact if_neg (hfresh x hx)

/-- A well-formed MANAGE frame whose reception ends at U is acted on and then passed on (R167). -/
theorem manageFrame_of_endsAtU {h : ManageHead} {r : Request} {s : State} (own : State → State) (hu : EndsAtU s)
    (hform : (DownFrame.manage h r).formOk = true) :
    manageFrame h r own s = passOn (.manage h r) (takeRequest h r own (endReceptionU s)) := by
  obtain ⟨hpartner, hrx⟩ := hu
  have hreceiving : receivingU s = true := by simp [receivingU, hpartner, hrx]
  rw [manageFrame, acceptFrame, if_pos hreceiving, if_pos hform]

/-- A fresh request that the node state admits is answered by its own rule (R125, R177). -/
theorem manageFrame_of_fresh {h : ManageHead} {r : Request} {s : State} (own : State → State)
    (hfresh : FreshRequest h r s) (hform : (DownFrame.manage h r).formOk = true)
    (hadmit : admitted r s.ncu.state = true) :
    manageFrame h r own s = passOn (.manage h r) (own (endReceptionU s)) := by
  obtain ⟨hu, ⟨a, ha, hdest⟩, hnew⟩ := hfresh
  have hmine : forThisNode h (endReceptionU s) = true := forThisNode_of_dest ha hdest
  have hstore : storedFor h r (endReceptionU s) = none := storedFor_of_no_match hnew
  have hnode : admitted r (endReceptionU s).ncu.state = true := hadmit
  rw [manageFrame_of_endsAtU own hu hform, takeRequest, if_pos hmine, hstore]
  exact congrArg _ (if_pos hnode)

/-- A retransmission is answered with the stored response, whatever the node state and the request's own rule (R178). -/
theorem manageFrame_of_stored {h : ManageHead} {r : Request} {s : State} {a : Byte} {x : Stored} (own : State → State)
    (hu : EndsAtU s) (hform : (DownFrame.manage h r).formOk = true) (ha : s.ciu.address = some a)
    (hdest : h.dest = 0 ∨ h.dest = a) (hx : s.mgu.store = some x) (hseq : x.seq = h.seq) (hcode : x.code = r.code) :
    manageFrame h r own s = passOn (.manage h r) (respondStored x (endReceptionU s)) := by
  have hmine : forThisNode h (endReceptionU s) = true := forThisNode_of_dest ha hdest
  have hstore : storedFor h r (endReceptionU s) = some x := storedFor_of_match hx hseq hcode
  rw [manageFrame_of_endsAtU own hu hform, takeRequest, if_pos hmine, hstore]

end Sys2Proof.Machine
end

section
/-! PROOF. Which bank is active: no part of a swap after the exchange changes it, the halts and trips it can cause
included (R139 to R143). -/

namespace Sys2Proof.Machine

/-! ### Operations that leave the BKS alone -/

theorem SameButLegs.active {s t : State} (h : SameButLegs s t) : t.bks.active = s.bks.active := by rw [h.bks]

theorem SameButReports.active {s t : State} (h : SameButReports s t) : t.bks.active = s.bks.active := by rw [h.bks]

@[simp] theorem active_report (b : RecBody) (s : State) : (report b s).bks.active = s.bks.active :=
  (report_same b s).active

@[simp] theorem active_addCause (l : LegId) (x : LegCause) (b : Bool) (s : State) :
    (addCause l x b s).bks.active = s.bks.active := (addCause_same l x b s).active

@[simp] theorem active_haltLegs (s : State) : (haltLegs s).bks.active = s.bks.active := (haltLegs_same s).active

@[simp] theorem active_tripLegs (n : ChanId) (v : LegSet) (s : State) :
    (tripLegs n v s).bks.active = s.bks.active := (tripLegs_same n v s).active

@[simp] theorem active_withdrawLegs (n : ChanId) (v : LegSet) (s : State) :
    (withdrawLegs n v s).bks.active = s.bks.active := (withdrawLegs_same n v s).active

@[simp] theorem active_judgeLeg (l : LegId) (s : State) : (judgeLeg l s).bks.active = s.bks.active :=
  (judgeLeg_same l s).active

@[simp] theorem active_captureEdge (l : LegId) (sw : Switch) (d : Bool) (c : Time) (s : State) :
    (captureEdge l sw d c s).bks.active = s.bks.active := (captureEdge_same l sw d c s).active

@[simp] theorem active_setMonitor (l : LegId) (sw : Switch) (m : Monitor) (s : State) :
    (s.setMonitor l sw m).bks.active = s.bks.active := rfl

@[simp] theorem active_setChannel (n : ChanId) (x : Channel) (s : State) :
    (s.setChannel n x).bks.active = s.bks.active := rfl

@[simp] theorem active_setNode (n : NodeState) (c : HaltSet) (s : State) :
    (s.setNode n c).bks.active = s.bks.active := rfl

@[simp] theorem active_countFeedback (f : FeedbackCounters → FeedbackCounters) (s : State) :
    (s.countFeedback f).bks.active = s.bks.active := rfl

@[simp] theorem active_countProt (f : ProtCounters → ProtCounters) (s : State) :
    (s.countProt f).bks.active = s.bks.active := rfl

/-! ### Loops -/

theorem active_forLegs {f : LegId → State → State} (h : ∀ l t, (f l t).bks.active = t.bks.active) (s : State) :
    (forLegs f s).bks.active = s.bks.active :=
  forLegs_keeps (P := fun t => t.bks.active = s.bks.active) (fun l t ht => (h l t).trans ht) rfl

theorem active_forLegsIn {f : LegId → State → State} (v : LegSet) (h : ∀ l t, (f l t).bks.active = t.bks.active)
    (s : State) : (forLegsIn v f s).bks.active = s.bks.active :=
  forLegsIn_keeps (P := fun t => t.bks.active = s.bks.active) (fun l t ht => (h l t).trans ht) rfl

theorem active_forSwitches {f : LegId → Switch → State → State}
    (h : ∀ l sw t, (f l sw t).bks.active = t.bks.active) (s : State) :
    (forSwitches f s).bks.active = s.bks.active :=
  forSwitches_keeps (P := fun t => t.bks.active = s.bks.active) (fun l sw t ht => (h l sw t).trans ht) rfl

theorem active_forChans {f : ChanId → State → State} (h : ∀ n t, (f n t).bks.active = t.bks.active) (s : State) :
    (forChans f s).bks.active = s.bks.active :=
  forChans_keeps (P := fun t => t.bks.active = s.bks.active) (fun n t ht => (h n t).trans ht) rfl

/-! ### Schedule, commit, halts -/

@[simp] theorem active_discardEntries (keep : SchedEntry → Bool) (r : DiscardReason) (s : State) :
    (discardEntries keep r s).bks.active = s.bks.active := by
  unfold discardEntries
  split
  · rfl
  · exact active_report _ _

/-- A cancelled commit takes the target away and no designation (R138). -/
@[simp] theorem active_cancelCommit (r : CancelReason) (s : State) :
    (cancelCommit r s).bks.active = s.bks.active := by
  unfold cancelCommit
  split
  · rfl
  · exact active_report _ _

@[simp] theorem active_haltFurther (x : HaltCause) (s : State) : (haltFurther x s).bks.active = s.bks.active := by
  simp [haltFurther]

@[simp] theorem active_haltEnter (x : HaltCause) (s : State) : (haltEnter x s).bks.active = s.bks.active := by
  simp [haltEnter, leaveOperation, strobesLow]

@[simp] theorem active_haltByMonitor (x : HaltCause) (s : State) :
    (haltByMonitor x s).bks.active = s.bks.active := by
  unfold haltByMonitor
  cases s.ncu.state with
  | unaddressed => rfl
  | standby => simp
  | syncing => simp
  | running => simp
  | halted => simp

/-! ### Monitors -/

@[simp] theorem active_disagree (l : LegId) (sw : Switch) (s : State) :
    (disagree l sw s).bks.active = s.bks.active := by
  unfold disagree failSwitch
  dsimp only
  split <;> simp

@[simp] theorem active_watchSuccess (l : LegId) (sw : Switch) (e : Bool) (c : Time) (edge : Bool) (s : State) :
    (watchSuccess l sw e c edge s).bks.active = s.bks.active := by
  have captured (b : Bool) (t : State) :
      (if b then captureEdge l sw e c t else t).bks.active = t.bks.active := by
    cases b with
    | false => rfl
    | true => exact active_captureEdge l sw e c t
  unfold watchSuccess
  dsimp only
  rw [captured]
  split
  · split <;> simp
  · simp

/-- A monitor's observation changes no designation, the halt of an escalated disagreement included (R78, R81). -/
@[simp] theorem active_observe (l : LegId) (sw : Switch) (edge : Bool) (s : State) :
    (observe l sw edge s).bks.active = s.bks.active := by
  unfold observe
  cases s.monitor l sw with
  | idle => rfl
  | quiet =>
    dsimp only
    split
    · rfl
    · split <;> simp
  | watching e c d => dsimp only; split <;> simp
  | filtering d => dsimp only; split <;> simp
  | failed => dsimp only; split <;> simp

@[simp] theorem active_startMonitors (s : State) : (startMonitors s).bks.active = s.bks.active := by
  refine (active_forSwitches (fun l sw t => active_observe l sw false t) _).trans
    (active_forSwitches (fun l sw t => ?_) s)
  split <;> simp

@[simp] theorem active_haltOrder (x : HaltCause) (s : State) : (haltOrder x s).bks.active = s.bks.active := by
  unfold haltOrder
  cases s.ncu.state with
  | unaddressed => rfl
  | standby => simp
  | syncing => simp
  | running => simp
  | halted => simp

/-! ### Protection -/

@[simp] theorem active_tripEffect (n : ChanId) (b : TripBasis) (s : State) :
    (tripEffect n b s).bks.active = s.bks.active := by
  unfold tripEffect
  dsimp only
  cases (s.protParams n).action with
  | tripLegs => simp
  | haltNode => cases s.ncu.state <;> simp

@[simp] theorem active_countTrip (s : State) : (countTrip s).bks.active = s.bks.active := rfl

@[simp] theorem active_tripChannel (n : ChanId) (f : LegSet) (s : State) :
    (tripChannel n f s).bks.active = s.bks.active := by
  simp [tripChannel]

theorem active_forceLegs (n : ChanId) (v : LegSet) (s : State) :
    (forLegsIn v (forceLeg n) s).bks.active = s.bks.active :=
  active_forLegsIn v (fun l t => (forceLeg_same n l t).active) s

@[simp] theorem active_takeAssertion (n : ChanId) (s : State) : (takeAssertion n s).bks.active = s.bks.active := by
  unfold takeAssertion
  dsimp only
  split <;> simp [active_forceLegs]

@[simp] theorem active_readInput (n : ChanId) (s : State) : (readInput n s).bks.active = s.bks.active := by
  unfold readInput
  split <;> simp

@[simp] theorem active_glitch (n : ChanId) (r : GlitchReason) (f : LegSet) (s : State) :
    (glitch n r f s).bks.active = s.bks.active := by
  simp [glitch]

@[simp] theorem active_releaseChannel (n : ChanId) (b : ReleaseBasis) (s : State) :
    (releaseChannel n b s).bks.active = s.bks.active := by
  simp [releaseChannel, active_forLegsIn _ fun l t => (removeCause_same l (.fi n) t).active]

/-! ### Swaps -/

@[simp] theorem active_swapChangedEntry (n : ChanId) (s : State) :
    (swapChangedEntry n s).bks.active = s.bks.active := by
  unfold swapChangedEntry
  cases s.channel n with
  | idle => exact active_readInput n s
  | qualifying d fast forced => simp
  | holding r => simp
  | active => dsimp only; split <;> simp

@[simp] theorem active_swapUnchangedEntry (old : Bank) (n : ChanId) (s : State) :
    (swapUnchangedEntry old n s).bks.active = s.bks.active := by
  unfold swapUnchangedEntry
  split
  · split
    · rfl
    · exact active_forceLegs n _ _
  · rfl

@[simp] theorem active_swapChannels (old : Bank) (s : State) : (swapChannels old s).bks.active = s.bks.active := by
  refine active_forChans (fun n t => ?_) s
  split <;> simp

@[simp] theorem active_swapMonitors (old : Bank) (s : State) : (swapMonitors old s).bks.active = s.bks.active := by
  have aligned := active_forSwitches (fun l sw t => (alignMonitor_same old l sw t).active) s
  have observed := (active_forSwitches (fun l sw t => active_observe l sw false t) _).trans aligned
  exact (active_forLegs (fun l t => active_judgeLeg l t) _).trans observed

/-- A swap makes the other bank active (R139 step 1), and its effects on the node leave it so. -/
theorem active_swapBanks (form : CommitForm) (s : State) :
    (swapBanks form s).bks.active = otherBank s.bks.active := by
  simp [swapBanks, exchangeBanks, active_forLegs fun l t => (swapLeg_same s.activeBank l t).active]

/-- The banks keep their contents and change places: the shadow after a swap is the bank active before it (R139). -/
theorem shadowBank_swapBanks (form : CommitForm) (s : State) : (swapBanks form s).shadowBank = s.activeBank := by
  have kept := swapBanks_outside form s
  have exchanged := active_swapBanks form s
  cases hactive : s.bks.active <;>
    simp [State.shadowBank, State.activeBank, exchanged, hactive, otherBank, kept.bankA, kept.bankB]

end Sys2Proof.Machine
end

section
/-! PROOF. COPY (R131). -/

namespace Sys2Proof.Machine

/-! ### Replacing the shadow -/

@[simp] theorem active_withShadow (b : Bank) (x : Bks) : (x.withShadow b).active = x.active := by
  unfold Bks.withShadow
  split <;> rfl

@[simp] theorem pending_withShadow (b : Bank) (x : Bks) : (x.withShadow b).pending = x.pending := by
  unfold Bks.withShadow
  split <;> rfl

@[simp] theorem shadowBank_setBks_withShadow (b : Bank) (x : Bks) (s : State) :
    (s.setBks (x.withShadow b)).shadowBank = b := by
  cases hactive : x.active <;> simp [State.shadowBank, Bks.withShadow, hactive]

/-- Replacing the shadow does not touch the active bank. -/
@[simp] theorem activeBank_setBks_withShadow (b : Bank) (s : State) :
    (s.setBks (s.bks.withShadow b)).activeBank = s.activeBank := by
  cases hactive : s.bks.active <;> simp [State.activeBank, Bks.withShadow, hactive]

/-! ### The request -/

theorem doCopy_of_pending {s : State} (hp : s.bks.pending.isSome = true) (h : ManageHead) :
    doCopy h s = respond h 6 .locked [] s := if_pos hp

theorem doCopy_of_no_pending {s : State} (hp : s.bks.pending = none) (h : ManageHead) :
    doCopy h s = respond h 6 .done [] (s.setBks (s.bks.withShadow s.activeBank)) := by
  simp [doCopy, hp]

/-- At an addressed node a fresh COPY is answered by its own rule. -/
theorem exec_copy_of_fresh {h : ManageHead} {s : State} (hfresh : FreshRequest h .copy s)
    (hnode : s.ncu.state ≠ .unaddressed) :
    exec (.copy h) s = .next (passOn (.manage h .copy) (doCopy h (endReceptionU s))) :=
  congrArg Host.Outcome.next (manageFrame_of_fresh (doCopy h) hfresh rfl (decide_eq_true hnode))

/-- Settles O53: COPY's own rule by whether a commit is pending, and the exchange of the banks in a swap. -/
theorem copyFillsTheShadow : Obligations.CopyFillsTheShadow := by
  refine ⟨?_, shadowBank_swapBanks⟩
  rintro h s v hfresh hnode rfl
  rw [exec_copy_of_fresh hfresh hnode]
  refine ⟨fun hpending => ?_, fun hnone => ?_⟩
  · rw [doCopy_of_pending (s := endReceptionU s) hpending]
    rfl
  · refine ⟨(endReceptionU s).setBks (s.bks.withShadow s.activeBank), ?_, rfl, ?_, ?_, ?_, ?_⟩
    · rw [doCopy_of_no_pending (s := endReceptionU s) hnone]
      rfl
    · simp
    · exact activeBank_setBks_withShadow s.activeBank (endReceptionU s)
    · simp
    · simp [hnone]

end Sys2Proof.Machine
end

section
/-! PROOF. CANCEL (R137). -/

namespace Sys2Proof.Machine

theorem doCancel_of_pending {s : State} {g : Half} (hp : s.bks.pending = some g) (h : ManageHead) :
    doCancel h s = respond h 8 .done [quadOfHalves g 0] (s.setBks { s.bks with pending := none }) := by
  simp [doCancel, hp]

theorem doCancel_of_no_pending {s : State} (hp : s.bks.pending = none) (h : ManageHead) :
    doCancel h s = respond h 8 .wrongState [] s := by
  simp [doCancel, hp]

/-- At an addressed node a fresh CANCEL is answered by its own rule. -/
theorem exec_cancel_of_fresh {h : ManageHead} {s : State} (hfresh : FreshRequest h .cancel s)
    (hnode : s.ncu.state ≠ .unaddressed) :
    exec (.cancel h) s = .next (passOn (.manage h .cancel) (doCancel h (endReceptionU s))) :=
  congrArg Host.Outcome.next (manageFrame_of_fresh (doCancel h) hfresh rfl (decide_eq_true hnode))

/-- In STANDBY and HALTED no commit is pending (R133). -/
theorem NodeConsistent.pending_eq_none {s : State} (hc : NodeConsistent s)
    (hn : s.ncu.state = .standby ∨ s.ncu.state = .halted) : s.bks.pending = none := by
  obtain ⟨-, -, -, -, hoperating, -, -⟩ := hc
  by_contra hpending
  have := hoperating (Option.isSome_iff_ne_none.2 hpending)
  rcases hn with hn | hn <;> simp [hn] at this

/-- Settles O54: CANCEL's own rule by what is pending, and the response store for a retransmission. -/
theorem cancelRemovesThePendingCommit : Obligations.CancelRemovesThePendingCommit := by
  rintro h s v hnode rfl
  refine ⟨fun hfresh => ?_, NodeConsistent.pending_eq_none, fun a x hu ha hdest hx hseq hcode => ?_⟩
  · rw [exec_cancel_of_fresh hfresh hnode]
    refine ⟨fun g hg => ?_, fun hnone => ?_⟩
    · rw [doCancel_of_pending (s := endReceptionU s) hg]
      rfl
    · rw [doCancel_of_no_pending (s := endReceptionU s) hnone]
      rfl
  · exact congrArg Host.Outcome.next (manageFrame_of_stored (doCancel h) hu rfl ha hdest hx hseq hcode)

end Sys2Proof.Machine
end

section
/-! PROOF. ECHO (R182): a created record leaves the feedback counters and the MGU alone, so a response changes nothing
but the record and the response store. -/

namespace Sys2Proof.Machine

/-! ### The feedback counters and a created record -/

@[simp] theorem feedbackCounters_enqueue (r : Record) (s : State) :
    (enqueue r s).fbm.counters = s.fbm.counters := counters_countEdge _ _ _

@[simp] theorem feedbackCounters_evict (v : Record) (rest : List Record) (s : State) :
    (evict v rest s).fbm.counters = s.fbm.counters := counters_countEdge _ _ _

@[simp] theorem feedbackCounters_offerRecord (r : Record) (s : State) :
    (offerRecord r s).fbm.counters = s.fbm.counters := by
  unfold offerRecord
  split
  · exact feedbackCounters_enqueue r s
  · split
    · exact (feedbackCounters_enqueue r _).trans (feedbackCounters_evict _ _ s)
    · rfl

/-- Of the FBM, a created record can change EDGE counts and no counter (R84, R147). -/
@[simp] theorem feedbackCounters_report (b : RecBody) (s : State) : (report b s).fbm.counters = s.fbm.counters :=
  feedbackCounters_offerRecord _ (advanceSeq s)

/-! ### The response -/

/-- One replacement of the MGU's state on both sides keeps the frame of a report. -/
theorem SameButReports.setMgu {s t : State} (h : SameButReports s t) (x : Mgu) :
    SameButReports (s.setMgu x) (t.setMgu x) :=
  { h with mgu := rfl }

/-- A response is its record and the store's new content; the rest of the MGU stays as it was before it (R179). -/
theorem respond_eq (h : ManageHead) (code : BitVec 4) (status : Status) (data : List Quad) (s : State) :
    respond h code status data s = (report (.response h.seq code status data) s).setMgu
      { s.mgu with store := some { seq := h.seq, code := code, status := status, data := data } } := by
  simp only [respond, (report_same _ s).mgu]

/-- Beside the MGU, a response touches the RPU and the EDGE counts only. -/
theorem respond_same (h : ManageHead) (code : BitVec 4) (status : Status) (data : List Quad) (s : State) :
    SameButReports (s.setMgu (respond h code status data s).mgu) (respond h code status data s) :=
  (report_same (.response h.seq code status data) s).setMgu _

@[simp] theorem feedbackCounters_respond (h : ManageHead) (code : BitVec 4) (status : Status) (data : List Quad)
    (s : State) : (respond h code status data s).fbm.counters = s.fbm.counters :=
  feedbackCounters_report _ s

/-! ### The request -/

theorem formOk_manage_echo {data : List Quad} (hlen : data.length ≤ 3) (h : ManageHead) :
    (DownFrame.manage h (.echo data)).formOk = true := decide_eq_true hlen

/-- At an addressed node a fresh ECHO of at most 3 units is answered DONE with its data. -/
theorem exec_echo_of_fresh {h : ManageHead} {data : List Quad} {s : State} (hlen : data.length ≤ 3)
    (hfresh : FreshRequest h (.echo data) s) (hnode : s.ncu.state ≠ .unaddressed) :
    exec (.echo h data) s = .next (passOn (.manage h (.echo data)) (respond h 1 .done data (endReceptionU s))) :=
  congrArg Host.Outcome.next
    (manageFrame_of_fresh (doEcho h data) hfresh (formOk_manage_echo hlen h) (decide_eq_true hnode))

/-- Settles O49: the state passed on is that after the response, whose own lemmas say what it leaves unchanged. -/
theorem echoReturnsItsData : Obligations.EchoReturnsItsData := by
  rintro h data s v hlen hfresh hnode rfl
  refine ⟨respond h 1 .done data (endReceptionU s), exec_echo_of_fresh hlen hfresh hnode, ?_, ?_, ?_, rfl⟩
  · exact respond_eq h 1 .done data (endReceptionU s)
  · exact respond_same h 1 .done data (endReceptionU s)
  · exact feedbackCounters_respond h 1 .done data (endReceptionU s)

end Sys2Proof.Machine
end

section
/-! PROOF. What a condition on the state has to be closed under so that every step keeps it. `MonitorKept` speaks of what
the monitors, the legs and the halts do; `StepKept` lists the events a step is made of; the theorems carry a condition
from these events through the functions of the model up to `step`. `Q` is what holds when an event begins: where nothing
depends on the beginning it is `P` itself. -/

namespace Sys2Proof.Machine

/-! ### Conditions the monitors and the halts keep -/

/-- `P` is kept by the events of the monitors: judged turn-ons, causes, records, and a halt order taken whole. -/
structure MonitorKept (P : State → Prop) : Prop where
  judge : ∀ l s, P s → P (judgeLeg l s)
  cause : ∀ l x b s, P s → P (addCause l x b s)
  monitor : ∀ l sw m s, (s.ncu.state.monitors = true ∨ s.monitor l sw ≠ .idle ∨ m = .idle) → P s →
    P (s.setMonitor l sw m)
  feedback : ∀ f s, P s → P (s.countFeedback f)
  record : ∀ b s, b.edgeLeg = none → P s → P (report b s)
  capture : ∀ l sw d c s, P s → P (captureEdge l sw d c s)
  enterHalt : ∀ x s, s.ncu.state ≠ .unaddressed → s.ncu.state ≠ .halted → P s → P (haltEnter x s)
  furtherHalt : ∀ x s, s.ncu.state = .halted → P s → P (haltFurther x s)

namespace MonitorKept

variable {P : State → Prop} {s : State}

theorem haltByMonitor (K : MonitorKept P) (x : HaltCause) (h : P s) : P (haltByMonitor x s) := by
  unfold Machine.haltByMonitor
  cases hn : s.ncu.state with
  | unaddressed => exact h
  | standby => exact K.enterHalt x s (by simp [hn]) (by simp [hn]) h
  | syncing => exact K.enterHalt x s (by simp [hn]) (by simp [hn]) h
  | running => exact K.enterHalt x s (by simp [hn]) (by simp [hn]) h
  | halted => exact K.furtherHalt x s hn h

theorem failSwitch (K : MonitorKept P) (l : LegId) (sw : Switch) (src : FailSource) (e u : Bool) (h : P s) :
    P (failSwitch l sw src e u s) := by
  have caused := K.cause l .confirm u _ (K.record (.confirmFail l sw src e u s.now) s rfl h)
  unfold Machine.failSwitch
  dsimp only
  split
  · exact caused
  · exact K.haltByMonitor _ caused

theorem failWatch (K : MonitorKept P) {l : LegId} {sw : Switch} (e : Bool) (hm : s.monitor l sw ≠ .idle) (h : P s) :
    P (failWatch l sw e s) :=
  K.failSwitch l sw _ _ _ (K.feedback _ _ (K.monitor l sw _ s (.inr (.inl hm)) h))

theorem disagree (K : MonitorKept P) {l : LegId} {sw : Switch} (hm : s.monitor l sw ≠ .idle) (h : P s) :
    P (disagree l sw s) :=
  K.failSwitch l sw _ _ _ (K.feedback _ _ (K.monitor l sw _ s (.inr (.inl hm)) h))

theorem watchSuccess (K : MonitorKept P) {l : LegId} {sw : Switch} (e : Bool) (c : Time) (edge : Bool)
    (hm : s.monitor l sw ≠ .idle) (h : P s) : P (watchSuccess l sw e c edge s) := by
  have quiet := K.monitor l sw (afterWatch l .quiet s) s (.inr (.inl hm)) h
  have captured (b : Bool) (t : State) (ht : P t) : P (if b then captureEdge l sw e c t else t) := by
    cases b with
    | false => exact ht
    | true => exact K.capture l sw e c t ht
  unfold Machine.watchSuccess
  dsimp only
  refine captured _ _ ?_
  split
  · split
    · exact K.judge l _ quiet
    · exact quiet
  · exact quiet

theorem observe (K : MonitorKept P) (l : LegId) (sw : Switch) (edge : Bool) (h : P s) : P (observe l sw edge s) := by
  unfold Machine.observe
  cases hm : s.monitor l sw with
  | idle => exact h
  | quiet =>
    dsimp only
    split
    · exact h
    · split
      · exact K.disagree (by simp [hm]) h
      · exact K.monitor _ _ _ s (by simp [hm]) h
  | watching e c d =>
    dsimp only
    split
    · exact K.watchSuccess e c edge (by simp [hm]) h
    · exact h
  | filtering d =>
    dsimp only
    split
    · exact K.monitor _ _ _ s (by simp [hm]) h
    · exact h
  | failed =>
    dsimp only
    split
    · exact K.monitor _ _ _ s (by simp [hm]) h
    · exact h

theorem startMonitors (K : MonitorKept P) (h : P s) : P (startMonitors s) := by
  refine forSwitches_keeps (fun l sw t ht => K.observe l sw false ht) (forSwitches_keeps (fun l sw t ht => ?_) h)
  split
  · next hm => exact K.monitor l sw _ t (.inl (by simp [monitored] at hm; exact hm.1)) ht
  · exact ht

theorem haltOrder (K : MonitorKept P) (x : HaltCause) (h : P s) : P (haltOrder x s) := by
  unfold Machine.haltOrder
  cases hn : s.ncu.state with
  | unaddressed => exact h
  | standby => exact K.startMonitors (K.enterHalt x s (by simp [hn]) (by simp [hn]) h)
  | syncing => exact K.enterHalt x s (by simp [hn]) (by simp [hn]) h
  | running => exact K.enterHalt x s (by simp [hn]) (by simp [hn]) h
  | halted => exact K.furtherHalt x s hn h

theorem tripLegs (K : MonitorKept P) (n : ChanId) (v : LegSet) (h : P s) : P (tripLegs n v s) :=
  forLegsIn_keeps (fun l t ht => K.cause l _ _ t ht) h

theorem tripEffect (K : MonitorKept P) (n : ChanId) (b : TripBasis) (h : P s) : P (tripEffect n b s) := by
  have recorded := K.record (.trip n (s.protParams n).action b (affectedSet n s) s.now) s rfl h
  unfold Machine.tripEffect
  dsimp only
  split
  · exact K.tripLegs n _ recorded
  · split
    · exact K.tripLegs n _ recorded
    · exact K.haltOrder _ recorded
    · exact K.haltOrder _ recorded
    · exact K.haltOrder _ recorded
    · exact K.haltOrder _ recorded

theorem alignMonitor (K : MonitorKept P) (old : Bank) (l : LegId) (sw : Switch) (h : P s) :
    P (alignMonitor old l sw s) := by
  unfold Machine.alignMonitor
  dsimp only
  split
  · exact h
  · next hn =>
    have hon : s.ncu.state.monitors = true := by simpa using hn
    split
    · split
      · exact h
      · exact K.monitor _ _ _ s (.inl hon) h
    · split
      · split
        · exact h
        · exact K.monitor _ _ _ s (.inl hon) h
      · exact K.monitor _ _ _ s (.inl hon) h

theorem swapMonitors (K : MonitorKept P) (old : Bank) (h : P s) : P (swapMonitors old s) :=
  forLegs_keeps (fun l t ht => K.judge l t ht)
    (forSwitches_keeps (fun l sw _ ht => K.observe l sw false ht)
      (forSwitches_keeps (fun l sw _ ht => K.alignMonitor old l sw ht) h))

end MonitorKept

/-! ### Conditions the Protection Unit keeps -/

/-- `P` is kept by the events of the monitors and by those of the fault channels. -/
structure ProtKept (P : State → Prop) : Prop extends MonitorKept P where
  force : ∀ n l s, P s → P (forceLeg n l s)
  withdraw : ∀ n l s, P s → P (withdrawLeg n l s)
  causes : ∀ l cs s, P s → P (setCauses l cs s)
  pru : ∀ x s, P s → P (s.setPru x)

namespace ProtKept

variable {P : State → Prop} {s : State}

theorem removeCause (K : ProtKept P) (l : LegId) (x : LegCause) (h : P s) : P (removeCause l x s) := by
  unfold Machine.removeCause
  split
  · exact K.causes l _ s h
  · exact h

theorem withdrawLegs (K : ProtKept P) (n : ChanId) (v : LegSet) (h : P s) : P (withdrawLegs n v s) :=
  forLegsIn_keeps (fun l t ht => K.withdraw n l t ht) h

theorem tripChannel (K : ProtKept P) (n : ChanId) (f : LegSet) (h : P s) : P (tripChannel n f s) :=
  K.pru _ _ (K.pru _ _ (K.withdrawLegs n f (K.tripEffect n _ h)))

theorem takeAssertion (K : ProtKept P) (n : ChanId) (h : P s) : P (takeAssertion n s) := by
  unfold Machine.takeAssertion
  dsimp only
  have held (v : LegSet) := forLegsIn_keeps (v := v) (fun l t ht => K.force n l t ht)
    (K.pru { (s.setChannel n (.qualifying (s.now + (s.protParams n).qualify.setWidth 32) (s.protParams n).fast v)).pru with
      counters := { s.pru.counters with assertions := satInc s.pru.counters.assertions } } s h)
  split
  · exact K.tripChannel n _ (held _)
  · exact held _

theorem glitch (K : ProtKept P) (n : ChanId) (r : GlitchReason) (f : LegSet) (h : P s) : P (glitch n r f s) :=
  K.pru _ _ (K.pru _ _ (K.withdrawLegs n f (K.record _ s rfl h)))

theorem releaseChannel (K : ProtKept P) (n : ChanId) (b : ReleaseBasis) (h : P s) : P (releaseChannel n b s) :=
  K.pru _ _ (K.pru _ _ (K.record _ _ rfl (forLegsIn_keeps (fun l _ ht => K.removeCause l _ ht) h)))

theorem readInput (K : ProtKept P) (n : ChanId) (h : P s) : P (readInput n s) := by
  unfold Machine.readInput
  split
  · exact K.takeAssertion n h
  · exact h

theorem channelAsserts (K : ProtKept P) (n : ChanId) (h : P s) : P (channelAsserts n s) := by
  unfold Machine.channelAsserts
  split
  · exact K.takeAssertion n h
  · exact h
  · exact h
  · exact K.pru _ s h

theorem channelDeasserts (K : ProtKept P) (n : ChanId) (h : P s) : P (channelDeasserts n s) := by
  unfold Machine.channelDeasserts
  split
  · exact h
  · exact K.glitch n _ _ h
  · unfold deassertActive
    split
    · exact K.pru _ s h
    · exact K.pru _ s h
  · exact h

theorem swapChannel (K : ProtKept P) (old : Bank) (n : ChanId) (h : P s) :
    P (if entryChanged (old.prot.get n) (s.protParams n) then swapChangedEntry n s else swapUnchangedEntry old n s) := by
  split
  · unfold swapChangedEntry
    split
    · exact K.readInput n h
    · exact K.readInput n (K.glitch n _ _ h)
    · exact K.readInput n (K.releaseChannel n _ h)
    · split
      · exact K.pru _ _ (K.tripEffect n _ h)
      · exact K.pru _ s h
  · unfold swapUnchangedEntry
    split
    · split
      · exact h
      · exact forLegsIn_keeps (fun l t ht => K.force n l t ht) (K.pru _ s h)
    · exact h

theorem swapChannels (K : ProtKept P) (old : Bank) (h : P s) : P (swapChannels old s) :=
  forChans_keeps (fun n _ ht => K.swapChannel old n ht) h

end ProtKept

end Sys2Proof.Machine
end

section
/-! PROOF. What a created record, a discard event, a cancelled commit and a halt order leave of each block, and what they
make of the blocks they change. -/

namespace Sys2Proof.Machine

/-! ### A created record -/

section
variable (b : RecBody) (s : State)

@[simp] theorem ctu_report : (report b s).ctu = s.ctu := (report_same b s).ctu
@[simp] theorem esu_report : (report b s).esu = s.esu := (report_same b s).esu
@[simp] theorem lge_report : (report b s).lge = s.lge := (report_same b s).lge
@[simp] theorem pru_report : (report b s).pru = s.pru := (report_same b s).pru
@[simp] theorem bks_report : (report b s).bks = s.bks := (report_same b s).bks
@[simp] theorem mgu_report : (report b s).mgu = s.mgu := (report_same b s).mgu
@[simp] theorem ncu_report : (report b s).ncu = s.ncu := (report_same b s).ncu
@[simp] theorem ciu_report : (report b s).ciu = s.ciu := (report_same b s).ciu
@[simp] theorem pins_report : (report b s).pins = s.pins := (report_same b s).pins
@[simp] theorem pending_report : (report b s).pending = s.pending := (report_same b s).pending
@[simp] theorem freeIndex_report : (report b s).freeIndex = s.freeIndex := (report_same b s).freeIndex
@[simp] theorem monitors_report : (report b s).fbm.monitors = s.fbm.monitors := (report_same b s).monitors
end

/-! ### A discard event (R65) -/

/-- A discard event leaves the schedule with the entries it keeps. -/
@[simp] theorem schedule_discardEntries (keep : SchedEntry → Bool) (r : DiscardReason) (s : State) :
    (discardEntries keep r s).esu.schedule = s.esu.schedule.filter keep := by
  unfold discardEntries
  split
  · next hnone =>
    have hall : ∀ e ∈ s.esu.schedule, keep e = true := by simpa [List.filter_eq_nil_iff] using hnone
    exact (List.filter_eq_self.2 hall).symm
  · simp [State.setSchedule, State.countEntries]

section
variable (keep : SchedEntry → Bool) (r : DiscardReason) (s : State)

@[simp] theorem pulses_discardEntries : (discardEntries keep r s).esu.pulses = s.esu.pulses := by
  unfold discardEntries; split <;> simp [State.setSchedule, State.countEntries]
@[simp] theorem ctu_discardEntries : (discardEntries keep r s).ctu = s.ctu := by
  unfold discardEntries; split <;> simp [State.setSchedule, State.countEntries]
@[simp] theorem lge_discardEntries : (discardEntries keep r s).lge = s.lge := by
  unfold discardEntries; split <;> simp [State.setSchedule, State.countEntries]
@[simp] theorem pru_discardEntries : (discardEntries keep r s).pru = s.pru := by
  unfold discardEntries; split <;> simp [State.setSchedule, State.countEntries]
@[simp] theorem bks_discardEntries : (discardEntries keep r s).bks = s.bks := by
  unfold discardEntries; split <;> simp [State.setSchedule, State.countEntries]
@[simp] theorem mgu_discardEntries : (discardEntries keep r s).mgu = s.mgu := by
  unfold discardEntries; split <;> simp [State.setSchedule, State.countEntries]
@[simp] theorem ncu_discardEntries : (discardEntries keep r s).ncu = s.ncu := by
  unfold discardEntries; split <;> simp [State.setSchedule, State.countEntries]
@[simp] theorem ciu_discardEntries : (discardEntries keep r s).ciu = s.ciu := by
  unfold discardEntries; split <;> simp [State.setSchedule, State.countEntries]
@[simp] theorem pins_discardEntries : (discardEntries keep r s).pins = s.pins := by
  unfold discardEntries; split <;> simp [State.setSchedule, State.countEntries]
@[simp] theorem pending_discardEntries : (discardEntries keep r s).pending = s.pending := by
  unfold discardEntries; split <;> simp [State.setSchedule, State.countEntries]
@[simp] theorem freeIndex_discardEntries : (discardEntries keep r s).freeIndex = s.freeIndex := by
  unfold discardEntries; split <;> simp [State.setSchedule, State.countEntries]
@[simp] theorem monitors_discardEntries : (discardEntries keep r s).fbm.monitors = s.fbm.monitors := by
  unfold discardEntries; split <;> simp [State.setSchedule, State.countEntries]
end

/-! ### A cancelled commit (R138) -/

section
variable (r : CancelReason) (s : State)

@[simp] theorem bks_cancelCommit : (cancelCommit r s).bks = { s.bks with pending := none } := by
  unfold cancelCommit
  split
  · next hnone => rw [← hnone]
  · simp
@[simp] theorem ctu_cancelCommit : (cancelCommit r s).ctu = s.ctu := by unfold cancelCommit; split <;> simp
@[simp] theorem esu_cancelCommit : (cancelCommit r s).esu = s.esu := by unfold cancelCommit; split <;> simp
@[simp] theorem lge_cancelCommit : (cancelCommit r s).lge = s.lge := by unfold cancelCommit; split <;> simp
@[simp] theorem pru_cancelCommit : (cancelCommit r s).pru = s.pru := by unfold cancelCommit; split <;> simp
@[simp] theorem mgu_cancelCommit : (cancelCommit r s).mgu = s.mgu := by unfold cancelCommit; split <;> simp
@[simp] theorem ncu_cancelCommit : (cancelCommit r s).ncu = s.ncu := by unfold cancelCommit; split <;> simp
@[simp] theorem ciu_cancelCommit : (cancelCommit r s).ciu = s.ciu := by unfold cancelCommit; split <;> simp
@[simp] theorem pins_cancelCommit : (cancelCommit r s).pins = s.pins := by unfold cancelCommit; split <;> simp
@[simp] theorem monitors_cancelCommit : (cancelCommit r s).fbm.monitors = s.fbm.monitors := by
  unfold cancelCommit; split <;> simp
end

/-! ### A halt order that moves the node to HALTED (R119) -/

section
variable (x : HaltCause) (s : State)

/-- The state in which a halt order adds NODE-HALT to the legs: HALTED, its record created. -/
def haltRecorded (x : HaltCause) (s : State) : State :=
  report (.halt x (HaltSet.empty.add x) s.ncu.state s.now) (s.setNode .halted (HaltSet.empty.add x))

/-- After the legs a halt order changes the schedule, the strobes, the pending commit, the lock and the reports. -/
theorem haltEnter_eq : haltEnter x s =
    leaveOperation (cancelCommit .halt (strobesLow
      (discardEntries (fun _ => false) .halt (haltLegs (haltRecorded x s))))) := rfl

@[simp] theorem ncu_haltEnter : (haltEnter x s).ncu = { state := .halted, causes := HaltSet.empty.add x } := by
  simp [haltEnter_eq, leaveOperation, strobesLow, (haltLegs_same _).ncu, haltRecorded, State.setNode]
@[simp] theorem ctu_haltEnter : (haltEnter x s).ctu = { s.ctu with lock := .none } := by
  simp [haltEnter_eq, leaveOperation, strobesLow, (haltLegs_same _).ctu, haltRecorded, State.setNode]
@[simp] theorem bks_haltEnter : (haltEnter x s).bks = { s.bks with pending := none } := by
  simp [haltEnter_eq, leaveOperation, strobesLow, (haltLegs_same _).bks, haltRecorded, State.setNode]
@[simp] theorem pru_haltEnter : (haltEnter x s).pru = s.pru := by
  simp [haltEnter_eq, leaveOperation, strobesLow, (haltLegs_same _).pru, haltRecorded, State.setNode]
@[simp] theorem ciu_haltEnter : (haltEnter x s).ciu = s.ciu := (haltEnter_outside x s).ciu
@[simp] theorem mgu_haltEnter : (haltEnter x s).mgu = s.mgu := (haltEnter_outside x s).mgu
@[simp] theorem pins_haltEnter : (haltEnter x s).pins = s.pins := (haltEnter_outside x s).pins
@[simp] theorem schedule_haltEnter : (haltEnter x s).esu.schedule = [] := by
  simp [haltEnter_eq, leaveOperation, strobesLow]
@[simp] theorem pulses_haltEnter : (haltEnter x s).esu.pulses = { s0 := none, s1 := none } := by
  simp [haltEnter_eq, leaveOperation, strobesLow]
@[simp] theorem lge_haltEnter : (haltEnter x s).lge = (haltLegs (haltRecorded x s)).lge := by
  simp [haltEnter_eq, leaveOperation, strobesLow]
@[simp] theorem monitors_haltEnter :
    (haltEnter x s).fbm.monitors = (haltLegs (haltRecorded x s)).fbm.monitors := by
  simp [haltEnter_eq, leaveOperation, strobesLow]

end

/-! ### A further halt order in HALTED (R120) -/

section
variable (x : HaltCause) (s : State)

@[simp] theorem ncu_haltFurther : (haltFurther x s).ncu = { state := .halted, causes := s.ncu.causes.add x } := by
  simp [haltFurther, (haltLegs_same _).ncu, State.setNode]
@[simp] theorem ctu_haltFurther : (haltFurther x s).ctu = s.ctu := by
  simp [haltFurther, (haltLegs_same _).ctu, State.setNode]
@[simp] theorem esu_haltFurther : (haltFurther x s).esu = s.esu := by
  simp [haltFurther, (haltLegs_same _).esu, State.setNode]
@[simp] theorem bks_haltFurther : (haltFurther x s).bks = s.bks := by
  simp [haltFurther, (haltLegs_same _).bks, State.setNode]
@[simp] theorem pru_haltFurther : (haltFurther x s).pru = s.pru := by
  simp [haltFurther, (haltLegs_same _).pru, State.setNode]
@[simp] theorem ciu_haltFurther : (haltFurther x s).ciu = s.ciu := (haltFurther_outside x s).ciu
@[simp] theorem pins_haltFurther : (haltFurther x s).pins = s.pins := (haltFurther_outside x s).pins

end

/-! ### The node state under the events of monitors and channels -/

/-- In a node that has started or halted, the monitors' events leave it RUNNING or HALTED. -/
theorem protKept_runningOrHalted : ProtKept fun s => s.ncu.state = .running ∨ s.ncu.state = .halted where
  judge l s h := by rwa [(judgeLeg_same l s).ncu]
  cause l x b s h := by rwa [(addCause_same l x b s).ncu]
  monitor _ _ _ _ _ h := h
  feedback _ _ h := h
  record b s _ h := by rwa [ncu_report]
  capture l sw d c s h := by rwa [(captureEdge_same l sw d c s).ncu]
  enterHalt x s _ _ _ := .inr (by simp)
  furtherHalt x s _ _ := .inr (by simp)
  force n l s h := by rwa [(forceLeg_same n l s).ncu]
  withdraw n l s h := by rwa [(withdrawLeg_same n l s).ncu]
  causes l cs s h := by rwa [(setCauses_same l cs s).ncu]
  pru _ _ h := h

/-- A swap leaves a RUNNING or HALTED node RUNNING or HALTED. -/
theorem swapBanks_runningOrHalted (f : CommitForm) {s : State}
    (h : s.ncu.state = .running ∨ s.ncu.state = .halted) :
    (swapBanks f s).ncu.state = .running ∨ (swapBanks f s).ncu.state = .halted := by
  have K := protKept_runningOrHalted
  refine K.swapChannels _ (K.swapMonitors _ ?_)
  rw [ncu_discardEntries, (SameButLegs.ofForLegs (fun l t => swapLeg_same _ l t) _).ncu, ncu_report]
  exact h

theorem commitCheck_runningOrHalted {s : State} (h : s.ncu.state = .running ∨ s.ncu.state = .halted) :
    (commitCheck s).ncu.state = .running ∨ (commitCheck s).ncu.state = .halted := by
  unfold commitCheck
  split
  · exact h
  · split
    · exact swapBanks_runningOrHalted _ h
    · exact h

end Sys2Proof.Machine
end

section
/-! PROOF. The events a step is made of (`StepKept`), and that a condition which every event keeps is kept by every step.
`Q` holds when a command begins, and still when a mark is declared; `P` is what the events keep. -/

namespace Sys2Proof.Machine

/-! ### The mark of an accepted frame -/

/-- The state in which the mark of an accepted frame makes its commit check: the mark declared, the frame counted, and
the SYNC record created where cycles had been missed (R11 steps 1 and 2). -/
def markAccepted (candidate : Time) (f : CycleFrame) (s : State) : State :=
  resumeSync f.number ((declareMark candidate f.number f.period s).countTiming fun k =>
    { k with framesAccepted := satInc k.framesAccepted })

theorem acceptMark_eq (candidate : Time) (f : CycleFrame) (s : State) :
    acceptMark candidate f s =
      if (commitCheck (markAccepted candidate f s)).ncu.state = .halted then commitCheck (markAccepted candidate f s)
      else
        takeDecoded f.number
          (decodeEntriesFrom candidate f.number f.period 0 f.entries
            (loadInForce (commitCheck (markAccepted candidate f s)))) := rfl

@[simp] theorem ncu_resumeSync (n : Half) (s : State) : (resumeSync n s).ncu = s.ncu := by
  unfold resumeSync
  split <;> simp

@[simp] theorem now_resumeSync (n : Half) (s : State) : (resumeSync n s).now = s.now := by
  unfold resumeSync
  split <;> simp [State.now]

@[simp] theorem ncu_markAccepted (candidate : Time) (f : CycleFrame) (s : State) :
    (markAccepted candidate f s).ncu = s.ncu := ncu_resumeSync _ _

@[simp] theorem now_markAccepted (candidate : Time) (f : CycleFrame) (s : State) :
    (markAccepted candidate f s).now = s.now := now_resumeSync _ _

@[simp] theorem now_loadInForce (s : State) : (loadInForce s).now = s.now := rfl

/-! ### The events of a step -/

/-- `Q` is kept by what precedes the first event of a command, and every event brings `Q` or `P` to `P`. -/
structure StepKept (Q P : State → Prop) : Prop extends MonitorKept P where
  begins : ∀ s, Q s → P s
  beginPending : ∀ x s, Q s → Q (s.setPending x)
  beginCiu : ∀ s, Q s → Q (endReceptionU s)
  beginCtu : ∀ x s, x.nodeTime = s.ctu.nodeTime → x.lock = s.ctu.lock → Q s → Q (s.setCtu x)
  beginRecord : ∀ b s, b.edgeLeg = none → Q s → Q (report b s)
  beginLock : ∀ s, s.ncu.state = .syncing → s.ctu.lock = .firstSeen → Q s → Q (lockNode s)
  ciu : ∀ x s, x.address = s.ciu.address → (x.down.length ≤ 2 ∨ x.down.length ≤ s.ciu.down.length) →
    (x.up.length ≤ 2 ∨ x.up.length ≤ s.ciu.up.length) → P s → P (s.setCiu x)
  ctu : ∀ x s, x.nodeTime = s.ctu.nodeTime → x.lock = s.ctu.lock → P s → P (s.setCtu x)
  rpu : ∀ x s, x.queue = s.rpu.queue → x.accounting = s.rpu.accounting → P s → P (s.setRpu x)
  send : ∀ r rest s, removalHead s.rpu.queue = some (r, rest) → P s → P (sendRecord r rest s)
  mgu : ∀ x s, P s → P (s.setMgu x)
  countEntries : ∀ f s, P s → P (s.countEntries f)
  countLegs : ∀ f s, P s → P (s.countLegs f)
  countProt : ∀ f s, P s → P (s.countProt f)
  feedbackPin : ∀ l sw v s, P s → P (s.setFeedbackPin l sw v)
  discard : ∀ keep r s, P s → P (discardEntries keep r s)
  decode : ∀ candidate number period i e s, s.ncu.state = .running → (candidate - s.now).toNat < 65536 → P s →
    P (decodeEntry candidate number period i e s)
  takeDecoded : ∀ n s, P s → P (takeDecoded n s)
  scheduleTake : ∀ s, headDue s = true → P s →
    P (takeEntries (splitDue s.esu.schedule).1 (s.setSchedule (splitDue s.esu.schedule).2))
  pulseEnd : ∀ x s, P s → P (s.setEsu { s.esu with pulses := s.esu.pulses.set x none })
  request : ∀ l t s, (s.leg l).cond.unrequested = false → P s → P (requestLeg l t s)
  stop : ∀ l s, P s → P (stopLeg l s)
  gapEnd : ∀ l sw e s, (s.leg l).cond = .gap sw e false → reached s.now e = true → Q s →
    P (judgeLeg l (s.setLeg l { s.leg l with cond := .gap sw e true }))
  settleEnd : ∀ l cs e k s, (s.leg l).cond = .safe cs (.settling e false) k → reached s.now e = true → Q s →
    P (judgeLeg l (s.setLeg l { s.leg l with cond := .safe cs (.settling e true) k }))
  minOnEnd : ∀ l side a e m d s, (s.leg l).cond = .on side a (some e) m d → P s →
    P (s.setLeg l { s.leg l with cond := .on side a none m none })
  clearLeg : ∀ l s, P s → P (clearLeg l s)
  firstSeen : ∀ s, s.ncu.state = .syncing → P s → P (s.setCtu { s.ctu with lock := .firstSeen })
  faultAssertion : ∀ n s t, execFaultAssertion n s = .next t → P s → P t
  faultDeassertion : ∀ n s t, execFaultDeassertion n s = .next t → P s → P t
  trip : ∀ n d fast v s, s.channel n = .qualifying d fast v → P s → P (tripChannel n v s)
  release : ∀ n d s, s.channel n = .holding d → P s → P (releaseChannel n .holdEnd s)
  swap : ∀ f s, (validate s.shadowBank = none ∨ s.bks.pending.isSome = true) → Q s → P (swapBanks f s)
  enum : ∀ hop s, (s.ncu.state = .unaddressed ∨ s.ncu.state = .standby) → P s → P (actEnum hop s)
  arm : ∀ s, s.ncu.state = .standby → P s →
    P ((loadInForce (s.setCtu { s.ctu with lock := .none, misses := 0 })).setNode .syncing HaltSet.empty)
  disarm : ∀ s, Operating s → P s → P (disarmNode s)
  resume : ∀ s, s.ncu.state = .halted → P s → P (resumeNode s)
  restart : ∀ h s, s.ncu.state ≠ .unaddressed → P s → P (doRestart h s)
  shadow : ∀ b s, s.bks.pending = none → P s → P (s.setBks (s.bks.withShadow b))
  commit : ∀ g s, Operating s → validate s.shadowBank = none → P s → P (s.setBks { s.bks with pending := some g })
  cancel : ∀ s, P s → P (s.setBks { s.bks with pending := none })
  hardReset : ∀ s, P s → P (hardReset s)
  tick : ∀ s, dueCommands s = [] → Q s → P (tick s)
  queue : ∀ x n s, P s → P ((s.setPending x).setFreeIndex n)

namespace StepKept

variable {Q P : State → Prop} {s : State}

/-! ### Ports and the return path -/

theorem countLink (K : StepKept Q P) (f : LinkCounters → LinkCounters) (h : P s) : P (s.countLink f) :=
  K.ciu _ s rfl (.inr le_rfl) (.inr le_rfl) h

theorem collect (K : StepKept Q P) (limit fuel used : Nat) (h : P s) : P (collect limit fuel used s).2 := by
  induction fuel generalizing used s with
  | zero => exact h
  | succ n ih =>
    unfold Machine.collect
    split
    · exact h
    · next r rest hr =>
      split
      · exact ih _ (K.send r rest s hr h)
      · exact h

theorem moveUp (K : StepKept Q P) (f : ReturnFrame) (h : P s) : P (moveUp f s) := by
  unfold Machine.moveUp
  split
  · exact K.countLink _ h
  · split
    · exact K.countLink _ h
    · next hroom =>
      split
      · exact K.ciu _ s rfl (.inr le_rfl) (.inl (by simp; omega)) h
      · next a _ =>
        have merged : P (mergeFrame a f s).2 := K.collect _ _ _ h
        have hciu : (mergeFrame a f s).2.ciu = s.ciu := (collect_same _ _ _ s).ciu
        exact K.ciu _ _ rfl (.inr le_rfl) (.inl (by simp [hciu]; omega)) merged

theorem arriveReturn (K : StepKept Q P) (f : ReturnFrame) (h : P s) : P (arriveReturn f s) := by
  unfold Machine.arriveReturn
  split
  · exact K.moveUp f h
  · split
    · exact K.moveUp _ (K.rpu _ s rfl rfl h)
    · exact K.moveUp f h

theorem passOn (K : StepKept Q P) (f : DownFrame) (h : P s) : P (passOn f s) := by
  unfold Machine.passOn
  split
  · unfold offerDown
    split
    · exact K.ciu _ s rfl (.inl (by simp; omega)) (.inr le_rfl) h
    · exact K.countLink _ h
  · exact K.moveUp _ (K.countLink _ h)

theorem acceptFrame (K : StepKept Q P) (f : DownFrame) {act : State → State} (hact : ∀ t, Q t → P (act t)) (h : Q s) :
    P (acceptFrame f act s) := by
  unfold Machine.acceptFrame
  split
  · split
    · exact K.passOn f (hact _ (K.beginCiu s h))
    · exact K.countLink _ (K.begins _ (K.beginCiu s h))
  · exact K.begins s h

theorem receiveD (K : StepKept Q P) (bytes : List Byte) (h : P s) : P (receiveD bytes s) := by
  have ended : P (endReceptionD s) := K.ciu _ s rfl (.inr le_rfl) (.inr le_rfl) h
  unfold Machine.receiveD
  split
  · split
    · exact K.moveUp _ (K.countLink _ ended)
    · exact K.arriveReturn _ ended
    · exact K.countLink _ ended
  · exact h

/-! ### Marks and CYCLE frames -/

theorem beginTiming (K : StepKept Q P) (f : TimingCounters → TimingCounters) (h : Q s) : Q (s.countTiming f) :=
  K.beginCtu _ s rfl rfl h

theorem countTiming (K : StepKept Q P) (f : TimingCounters → TimingCounters) (h : P s) : P (s.countTiming f) :=
  K.ctu _ s rfl rfl h

theorem commitCheck (K : StepKept Q P) (h : Q s) : P (commitCheck s) := by
  unfold Machine.commitCheck
  split
  · exact K.begins s h
  · next hp =>
    split
    · exact K.swap _ s (.inr (by simp [hp])) h
    · exact K.begins s h

theorem decodeEntriesFrom (K : StepKept Q P) {candidate : Time} (number period : Half) (i : Nat) (es : List Entry)
    (hn : s.ncu.state = .running) (hc : (candidate - s.now).toNat < 65536) (h : P s) :
    P (decodeEntriesFrom candidate number period i es s) := by
  induction es generalizing i s with
  | nil => exact h
  | cons e es ih =>
    have hsame := decodeEntry_outside candidate number period i e s
    have hncu : (decodeEntry candidate number period i e s).ncu = s.ncu := by
      have placed (ps : List SchedEntry) (t : State) : (ps.foldl (fun u x => placePart x u) t).ncu = t.ncu := by
        induction ps generalizing t with
        | nil => rfl
        | cons x xs ih => exact ih (placePart x t)
      unfold decodeEntry
      split
      · rfl
      · split
        · exact ncu_report _ _
        · dsimp only
          split
          · exact ncu_report _ _
          · exact placed _ s
    exact ih (i + 1) (by rw [hncu, hn]) (by rwa [hsame.now]) (K.decode _ _ _ _ _ s hn hc h)

theorem loadInForce (K : StepKept Q P) (h : P s) : P (loadInForce s) := K.ctu _ s rfl rfl h

theorem beginResume (K : StepKept Q P) (n : Half) (h : Q s) : Q (resumeSync n s) := by
  unfold resumeSync
  split
  · exact h
  · exact K.beginCtu _ _ rfl rfl (K.beginRecord _ s rfl h)

/-- An accepted frame's mark, commit check and decode (R11): decoding happens in RUNNING only. -/
theorem acceptMark (K : StepKept Q P) {candidate : Time} (f : CycleFrame) (hn : s.ncu.state = .running)
    (hc : (candidate - s.now).toNat < 65536) (h : Q s) : P (acceptMark candidate f s) := by
  have marked : Q (markAccepted candidate f s) :=
    K.beginResume f.number (K.beginTiming _ (K.beginCtu _ s rfl rfl h))
  have checked := K.commitCheck marked
  have hstate := commitCheck_runningOrHalted (s := markAccepted candidate f s) (.inl (by simpa using hn))
  have hnow := (commitCheck_outside (markAccepted candidate f s)).now
  rw [acceptMark_eq]
  split
  · exact checked
  · next hrun =>
    refine K.takeDecoded _ _ (K.decodeEntriesFrom _ _ 0 _ (hstate.resolve_right hrun) ?_ (K.loadInForce checked))
    rw [now_loadInForce, hnow, now_markAccepted]
    exact hc

theorem firstFrame (K : StepKept Q P) (candidate : Time) (f : CycleFrame) (hn : s.ncu.state = .syncing) (h : P s) :
    P (firstFrame candidate f s) := by
  have marked : P (declareMark candidate f.number f.period s) := K.ctu _ s rfl rfl h
  unfold Machine.firstFrame
  exact K.countTiming _ (K.countEntries _ _ (K.firstSeen (declareMark candidate f.number f.period s) hn marked))

theorem syncingFrame (K : StepKept Q P) {candidate : Time} (f : CycleFrame) (hn : s.ncu.state = .syncing)
    (hc : (candidate - s.now).toNat < 65536) (h : Q s) : P (syncingFrame candidate f s) := by
  have first := K.firstFrame candidate f hn (K.begins s h)
  unfold Machine.syncingFrame
  cases hl : s.ctu.lock with
  | none => exact first
  | firstSeen =>
    dsimp only
    split
    · exact K.acceptMark f rfl hc (K.beginLock s hn hl h)
    · exact first
  | locked => exact first

theorem runningFrame (K : StepKept Q P) {candidate : Time} (f : CycleFrame) (hn : s.ncu.state = .running)
    (hc : (candidate - s.now).toNat < 65536) (h : Q s) : P (runningFrame candidate f s) := by
  have late : P (dropLate s) := K.countTiming _ (K.begins s h)
  unfold Machine.runningFrame
  cases windowPlace s.ctu candidate with
  | inside =>
    dsimp only
    split
    · exact K.countTiming _ (K.begins s h)
    · exact K.acceptMark f hn hc (K.beginTiming _ h)
  | after => exact late
  | before =>
    dsimp only
    split
    · exact K.countTiming _ (K.begins s h)
    · exact late

/-- A candidate mark lies less than 2^16 ticks ahead (R4). -/
theorem candidate_ahead (now : Time) (d : Half) : (now + d.setWidth 32 - now).toNat < 65536 := by
  have hd : now + d.setWidth 32 - now = d.setWidth 32 := add_sub_cancel_left _ _
  rw [hd]
  simp only [BitVec.toNat_setWidth]
  omega

theorem takeCycle (K : StepKept Q P) (f : CycleFrame) (h : Q s) : P (takeCycle f s) := by
  have ignored : P (ignoreFrame s) := K.countTiming _ (K.begins s h)
  have faulty (g : TimingCounters → TimingCounters) : P (s.countTiming g) := K.countTiming _ (K.begins s h)
  unfold Machine.takeCycle
  cases hn : s.ncu.state with
  | unaddressed => exact ignored
  | standby => exact ignored
  | syncing =>
    unfold periodChecked
    dsimp only
    split
    · exact K.syncingFrame f hn (candidate_ahead _ _) h
    · exact faulty _
  | running =>
    unfold periodChecked
    dsimp only
    split
    · exact K.runningFrame f hn (candidate_ahead _ _) h
    · exact faulty _
  | halted => exact ignored

theorem linkLoss (K : StepKept Q P) (h : P s) : P (linkLoss s) := K.haltOrder _ (K.countTiming _ h)

theorem coastOrder (K : StepKept Q P) (h : P s) : P (coastOrder s) := by
  have coasted {t : State} (ht : P t) : P (coastLegs t) := by
    unfold coastLegs
    refine forLegs_keeps (fun l u hu => ?_) ht
    split
    · exact K.stop l u hu
    · exact hu
  unfold Machine.coastOrder
  exact coasted (K.discard _ _ s h)

theorem coastSyncing (K : StepKept Q P) (h : P (declareCoast s)) : P (coastSyncing s) := by
  unfold Machine.coastSyncing
  dsimp only
  split
  · exact K.linkLoss h
  · exact h

theorem coastContinue (K : StepKept Q P) (h : P s) : P (coastContinue s) := by
  have loaded := K.loadInForce h
  unfold Machine.coastContinue
  dsimp only
  refine K.coastOrder ?_
  split
  · exact K.record _ _ rfl loaded
  · exact loaded

theorem coastRunning (K : StepKept Q P) (h : Q (declareCoast s)) : P (coastRunning s) := by
  have checked := K.commitCheck h
  unfold Machine.coastRunning
  dsimp only
  split
  · exact checked
  · split
    · exact K.linkLoss checked
    · exact K.coastContinue checked

theorem windowClose (K : StepKept Q P) {t : State} (ht : execWindowClose s = .next t) (h : Q s) : P t := by
  have marked : Q (declareCoast s) :=
    K.beginTiming (fun k => { k with coastedMarks := satInc k.coastedMarks })
      (K.beginCtu { s.ctu with cycle := s.ctu.cycle + 1, nominal := windowCentre s.ctu, misses := s.ctu.misses + 1 } s
        rfl rfl h)
  simp only [execWindowClose, Host.Outcome.next.injEq] at ht
  subst ht
  split
  · cases s.ncu.state with
    | unaddressed => exact K.begins s h
    | standby => exact K.begins s h
    | syncing => exact K.coastSyncing (K.begins _ marked)
    | running => exact K.coastRunning marked
    | halted => exact K.begins s h
  · exact K.begins s h

/-! ### Requests -/

theorem respond (K : StepKept Q P) (m : ManageHead) (code : BitVec 4) (st : Status) (data : List Quad) (h : P s) :
    P (respond m code st data s) :=
  K.mgu _ _ (K.record _ s rfl h)

theorem clearGroup (K : StepKept Q P) (group : Byte) (h : P s) : P (clearGroup group s) := by
  unfold Machine.clearGroup
  split
  · exact K.rpu _ _ rfl rfl (K.countLink _ h)
  · split
    · exact K.countTiming _ h
    · split
      · exact K.countProt _ _ (K.feedback _ _ (K.countLegs _ _ (K.countEntries _ s h)))
      · exact h

theorem doCounters (K : StepKept Q P) (m : ManageHead) (g p : Byte) (f : Bool) (h : P s) : P (doCounters m g p f s) := by
  have page (x : Snapshot) (t : State) (ht : P t) : P (respondPage m p x t) := by
    unfold respondPage
    split
    · exact K.respond _ _ _ _ ht
    · exact K.respond _ _ _ _ ht
  unfold Machine.doCounters
  split
  · exact K.respond _ _ _ _ h
  · split
    · exact K.respond _ _ _ _ h
    · split
      · refine page _ _ ?_
        split
        · exact K.clearGroup _ (K.mgu _ s h)
        · exact K.mgu _ s h
      · exact page _ _ h

theorem doCommitImmediate (K : StepKept Q P) (m : ManageHead) (h : Q s) : P (doCommitImmediate m s) := by
  unfold Machine.doCommitImmediate
  split
  · exact K.respond _ _ _ _ (K.begins s h)
  · split
    · exact K.respond _ _ _ _ (K.begins s h)
    · next hv => exact K.respond _ _ _ _ (K.swap _ s (.inl hv) h)

theorem doCommitTargeted (K : StepKept Q P) (m : ManageHead) (g : Half) (hn : Operating s) (h : P s) :
    P (doCommitTargeted m g s) := by
  unfold Machine.doCommitTargeted
  split
  · exact K.respond _ _ _ _ h
  · split
    · split
      · exact K.respond _ _ _ _ h
      · next hv => exact K.respond _ _ _ _ (K.commit g s hn hv h)
    · exact K.respond _ _ _ _ h

/-- A request that the node state admits, by its own rule (R125). -/
theorem doRequest (K : StepKept Q P) (m : ManageHead) (r : Request) (ha : admitted r s.ncu.state = true) (hq : Q s) :
    P (doRequest m r s) := by
  have h := K.begins s hq
  cases r with
  | echo data => exact K.respond _ _ _ _ h
  | status => exact K.respond _ _ _ _ (K.rpu _ s rfl rfl h)
  | counters g p f => exact K.doCounters m g p f h
  | read b t i =>
    show P (doRead m b t i s)
    unfold doRead
    split
    · exact K.respond _ _ _ _ h
    · split
      · exact K.respond _ _ _ _ h
      · split
        · exact K.respond _ _ _ _ h
        · exact K.respond _ _ _ _ h
  | write t i x =>
    show P (doWrite m t i x s)
    unfold doWrite
    split
    · exact K.respond _ _ _ _ h
    · split
      · exact K.respond _ _ _ _ h
      · next hp =>
        split
        · exact K.respond _ _ _ _ h
        · exact K.respond _ _ _ _ (K.shadow _ s (by simpa using hp) h)
  | copy =>
    show P (doCopy m s)
    unfold doCopy
    split
    · exact K.respond _ _ _ _ h
    · next hp => exact K.respond _ _ _ _ (K.shadow _ s (by simpa using hp) h)
  | commitImmediate x => exact K.doCommitImmediate m hq
  | commitTargeted g => exact K.doCommitTargeted m g (by simpa [admitted, Operating] using ha) h
  | cancel =>
    show P (doCancel m s)
    unfold doCancel
    split
    · exact K.respond _ _ _ _ h
    · exact K.respond _ _ _ _ (K.cancel s h)
  | arm =>
    show P (doArm m s)
    unfold doArm
    split
    · exact K.respond _ _ _ _ (K.startMonitors (K.arm s (by simpa [admitted, Operating] using ha) h))
    · exact K.respond _ _ _ _ h
  | disarm => exact K.respond _ _ _ _ (K.disarm s (by simpa [admitted, Operating] using ha) h)
  | clear v =>
    show P (doClear m v s)
    unfold doClear
    split
    · exact K.respond _ _ _ _ (forLegsIn_keeps (fun l t ht => K.clearLeg l t ht) h)
    · exact K.respond _ _ _ _ h
  | resume =>
    show P (doResume m s)
    unfold doResume
    split
    · exact K.respond _ _ _ _ (K.resume s (by simpa [admitted, Operating] using ha) h)
    · exact K.respond _ _ _ _ h
  | flush => exact K.respond _ _ _ _ (K.discard _ _ s h)
  | restart => exact K.restart m s (by simpa [admitted, Operating] using ha) h
  | unknown c p => exact K.respond _ _ _ _ h

theorem takeRequest (K : StepKept Q P) (m : ManageHead) (r : Request) (h : Q s) :
    P (takeRequest m r (Machine.doRequest m r) s) := by
  unfold Machine.takeRequest
  split
  · split
    · exact K.record _ s rfl (K.begins s h)
    · split
      · next ha => exact K.doRequest m r ha h
      · exact K.respond _ _ _ _ (K.begins s h)
  · exact K.begins s h

theorem actEnum (K : StepKept Q P) (hop : Byte) (h : P s) : P (actEnum hop s) := by
  have checked : P (checkTopology hop s) := by
    unfold checkTopology
    split
    · exact h
    · exact K.haltOrder _ (K.countLink _ h)
  cases hn : s.ncu.state with
  | unaddressed => exact K.enum hop s (.inl hn) h
  | standby => exact K.enum hop s (.inr hn) h
  | syncing => simpa [Machine.actEnum, hn] using checked
  | running => simpa [Machine.actEnum, hn] using checked
  | halted => simpa [Machine.actEnum, hn] using checked

/-- A downstream frame is acted on by its kind (R167). -/
theorem actDown (K : StepKept Q P) (f : DownFrame) (h : Q s) : P (actDown f s) := by
  cases f with
  | enum hop => exact K.actEnum hop (K.begins s h)
  | cycle f => exact K.takeCycle f h
  | manage m r => exact K.takeRequest m r h

end StepKept

/-! ### Commands and steps -/

/-- A frame command is the reception of its frame, acted on by the frame's kind (R167). -/
theorem exec_of_downFrame {c : Instr} {f : DownFrame} (hf : c.downFrame = some f) (s : State) :
    exec c s = .next (acceptFrame f (actDown f) s) := by
  cases c <;> simp only [Instr.downFrame, Option.some.injEq, reduceCtorEq] at hf <;> subst hf <;> rfl

namespace StepKept

variable {Q P : State → Prop} {s t : State}

theorem legEvents (K : StepKept Q P) (l : LegId) (h : Q s) :
    (∀ t, execGapEnd l s = .next t → P t) ∧ (∀ t, execMinOnEnd l s = .next t → P t) ∧
      (∀ t, execMaxOnEnd l s = .next t → P t) ∧ ∀ t, execSettleEnd l s = .next t → P t := by
  have hp := K.begins s h
  refine ⟨fun t ht => ?_, fun t ht => ?_, fun t ht => ?_, fun t ht => ?_⟩
  · simp only [execGapEnd, Host.Outcome.next.injEq] at ht
    subst ht
    split
    · next sw e hc =>
      split
      · next hr => exact K.gapEnd l sw e s hc hr h
      · exact hp
    · exact hp
  · simp only [execMinOnEnd, Host.Outcome.next.injEq] at ht
    subst ht
    split
    · next side a e m d hc =>
      have ended := K.minOnEnd l side a e m d s hc hp
      split
      · split
        · exact ended
        · exact K.request l _ _ (by simp [LegCond.unrequested]) ended
      · exact hp
    · exact hp
  · simp only [execMaxOnEnd, Host.Outcome.next.injEq] at ht
    subst ht
    split
    · next side a m e d hc =>
      have off : P (putLeg l (Leg.offAt s.now .off) s) := by
        have := K.stop l s hp
        simpa [stopLeg, hc] using this
      split
      · split
        · exact K.record _ _ rfl off
        · exact K.cause _ _ _ _ (K.record _ _ rfl off)
      · exact hp
    · exact hp
  · simp only [execSettleEnd, Host.Outcome.next.injEq] at ht
    subst ht
    split
    · next cs e k hc =>
      split
      · next hr => exact K.settleEnd l cs e k s hc hr h
      · exact hp
    · exact hp

theorem monitorEvents (K : StepKept Q P) (l : LegId) (sw : Switch) (h : P s) :
    (∀ v t, execFeedbackInputChange l sw v s = .next t → P t) ∧ (∀ t, execWatchDeadline l sw s = .next t → P t) ∧
      ∀ t, execFilterEnd l sw s = .next t → P t := by
  refine ⟨fun v t ht => ?_, fun t ht => ?_, fun t ht => ?_⟩
  · simp only [execFeedbackInputChange, Host.Outcome.next.injEq] at ht
    subst ht
    split
    · exact h
    · exact K.observe _ _ _ (K.feedbackPin l sw v s h)
  · simp only [execWatchDeadline, Host.Outcome.next.injEq] at ht
    subst ht
    split
    · next hm =>
      split
      · exact K.failWatch _ (by simp [hm]) h
      · exact h
    · exact h
  · simp only [execFilterEnd, Host.Outcome.next.injEq] at ht
    subst ht
    split
    · next hm =>
      split
      · exact K.disagree (by simp [hm]) h
      · exact h
    · exact h

theorem channelEvents (K : StepKept Q P) (n : ChanId) (h : P s) :
    (∀ t, execQualifyDeadline n s = .next t → P t) ∧ ∀ t, execRelease n s = .next t → P t := by
  refine ⟨fun t ht => ?_, fun t ht => ?_⟩
  · simp only [execQualifyDeadline, Host.Outcome.next.injEq] at ht
    subst ht
    split
    · next hc =>
      split
      · exact K.trip n _ _ _ s hc h
      · exact h
    · exact h
  · simp only [execRelease, Host.Outcome.next.injEq] at ht
    subst ht
    split
    · next hc =>
      split
      · exact K.release n _ s hc h
      · exact h
    · exact h

/-- The events of the chain ports that carry no downstream frame. -/
theorem portEvents (K : StepKept Q P) (h : P s) :
    (∀ t, execDTransmitEnd s = .next t → P t) ∧ (∀ t, execUTransmitEnd s = .next t → P t) ∧
      (∀ t, execDPartnerLost s = .next t → P t) ∧ (∀ t, execUPartnerLost s = .next t → P t) ∧
      (∀ t, execDPartnerGained s = .next t → P t) ∧ (∀ t, execUPartnerGained s = .next t → P t) ∧
      ∀ p t, execFrameReceptionBegins p s = .next t → P t := by
  have gained (x : Ciu) (ha : x.address = s.ciu.address) (hd : x.down = s.ciu.down) (hu : x.up = s.ciu.up) :
      P (s.setCiu x) := K.ciu x s ha (.inr (by rw [hd])) (.inr (by rw [hu])) h
  refine ⟨fun t ht => ?_, fun t ht => ?_, fun t ht => ?_, fun t ht => ?_, fun t ht => ?_, fun t ht => ?_,
    fun p t ht => ?_⟩
  · simp only [execDTransmitEnd, Host.Outcome.next.injEq] at ht
    subst ht
    unfold endTransmitD
    split
    · exact K.ciu _ s rfl (.inr (by simp)) (.inr le_rfl) h
    · exact h
  · simp only [execUTransmitEnd, Host.Outcome.next.injEq] at ht
    subst ht
    unfold endTransmitU
    split
    · exact K.ciu _ s rfl (.inr le_rfl) (.inr (by simp)) h
    · exact h
  · simp only [execDPartnerLost, Host.Outcome.next.injEq] at ht
    subst ht
    unfold loseD
    split
    · exact K.ciu _ s rfl (.inl (by simp)) (.inr le_rfl) h
    · exact h
  · simp only [execUPartnerLost, Host.Outcome.next.injEq] at ht
    subst ht
    unfold loseU
    split
    · exact K.ciu _ s rfl (.inr le_rfl) (.inl (by simp)) h
    · exact h
  · simp only [execDPartnerGained, Host.Outcome.next.injEq] at ht
    subst ht
    exact gained _ rfl rfl rfl
  · simp only [execUPartnerGained, Host.Outcome.next.injEq] at ht
    subst ht
    exact gained _ rfl rfl rfl
  · simp only [execFrameReceptionBegins, Host.Outcome.next.injEq] at ht
    subst ht
    unfold beginReception
    cases p with
    | u =>
      dsimp only
      split
      · exact gained _ rfl rfl rfl
      · exact h
    | d =>
      dsimp only
      split
      · exact gained _ rfl rfl rfl
      · exact h

/-- Every command keeps a condition that its events keep. -/
theorem exec (K : StepKept Q P) {c : Instr} (ht : exec c s = .next t) (h : Q s) : P t := by
  have hp := K.begins s h
  cases hf : c.downFrame with
  | some f =>
    rw [exec_of_downFrame hf, Host.Outcome.next.injEq] at ht
    exact ht ▸ K.acceptFrame f (fun u hu => K.actDown f hu) h
  | none =>
    cases c with
    | hardReset =>
      simp only [Machine.exec, execHardReset, Host.Outcome.next.injEq] at ht
      exact ht ▸ K.hardReset s hp
    | uFrameDiscarded bytes =>
      simp only [Machine.exec, execUFrameDiscarded, Host.Outcome.next.injEq] at ht
      subst ht
      have ended : P (endReceptionU s) := K.begins _ (K.beginCiu s h)
      unfold receiveU
      split
      · split
        · exact K.countLink _ ended
        · exact hp
      · split
        · exact K.countLink _ ended
        · exact hp
      · exact K.acceptFrame _ (fun u hu => K.actDown _ hu) h
    | returnFrameReceived bytes =>
      simp only [Machine.exec, execReturnFrameReceived, Host.Outcome.next.injEq] at ht
      exact ht ▸ K.receiveD bytes hp
    | dTransmitEnd => exact (K.portEvents hp).1 t ht
    | uTransmitEnd => exact (K.portEvents hp).2.1 t ht
    | dPartnerLost => exact (K.portEvents hp).2.2.1 t ht
    | uPartnerLost => exact (K.portEvents hp).2.2.2.1 t ht
    | dPartnerGained => exact (K.portEvents hp).2.2.2.2.1 t ht
    | uPartnerGained => exact (K.portEvents hp).2.2.2.2.2.1 t ht
    | frameReceptionBegins p => exact (K.portEvents hp).2.2.2.2.2.2 p t ht
    | windowClose => exact K.windowClose ht h
    | scheduleTake =>
      simp only [Machine.exec, execScheduleTake, Host.Outcome.next.injEq] at ht
      subst ht
      split
      · next hd => exact K.scheduleTake s hd hp
      · exact hp
    | pulseEnd x =>
      simp only [Machine.exec, execPulseEnd, Host.Outcome.next.injEq] at ht
      subst ht
      split
      · exact K.pulseEnd x s hp
      · exact hp
    | gapEnd l => exact (K.legEvents l h).1 t ht
    | minOnEnd l => exact (K.legEvents l h).2.1 t ht
    | maxOnEnd l => exact (K.legEvents l h).2.2.1 t ht
    | settleEnd l => exact (K.legEvents l h).2.2.2 t ht
    | feedbackInputChange l sw v => exact (K.monitorEvents l sw hp).1 v t ht
    | watchDeadline l sw => exact (K.monitorEvents l sw hp).2.1 t ht
    | filterEnd l sw => exact (K.monitorEvents l sw hp).2.2 t ht
    | faultAssertion n => exact K.faultAssertion n s t ht hp
    | faultDeassertion n => exact K.faultDeassertion n s t ht hp
    | qualifyDeadline n => exact (K.channelEvents n hp).1 t ht
    | release n => exact (K.channelEvents n hp).2 t ht
    | enum | cycle | echo | status | counters | read | write | copy | commitImmediate | commitTargeted | cancel | arm
    | disarm | clear | resume | flush | restart | unknown => simp [Instr.downFrame] at hf

/-- Every step keeps a condition that its events keep. -/
theorem step (K : StepKept Q P) (ht : step s = .next t) (h : Q s) : P t := by
  unfold Machine.step at ht
  split at ht
  · simp only [Host.Outcome.next.injEq] at ht
    subst ht
    unfold runIdle
    split
    · next hd => exact K.tick s hd h
    · exact K.queue _ _ s (K.begins s h)
  · exact K.exec ht (K.beginPending _ s h)

end StepKept

end Sys2Proof.Machine
end

section
/-! PROOF. Conditions that are kept block by block. `LegsKept` lists the operations of the Leg Engine, `BlocksKept` the
changes of the single blocks; the events of `StepKept` are composed of them. -/

namespace Sys2Proof.Machine

/-- `P` is kept by each operation of the Leg Engine, and by the monitors' and their counters' changes. -/
structure LegsKept (P : State → Prop) : Prop where
  judge : ∀ l s, P s → P (judgeLeg l s)
  cause : ∀ l x b s, P s → P (addCause l x b s)
  request : ∀ l t s, P s → P (requestLeg l t s)
  force : ∀ n l s, P s → P (forceLeg n l s)
  withdraw : ∀ n l s, P s → P (withdrawLeg n l s)
  causes : ∀ l cs s, P s → P (setCauses l cs s)
  suppress : ∀ l s, P s → P (suppressClamp l s)
  stop : ∀ l s, P s → P (stopLeg l s)
  turnOff : ∀ l s, P s → P (putLeg l (Leg.offAt s.now .off) s)
  minOnEnd : ∀ l side a e m d s, (s.leg l).cond = .on side a (some e) m d → P s →
    P (s.setLeg l { s.leg l with cond := .on side a none m none })
  feedback : ∀ f s, P s → P (s.countFeedback f)
  countLegs : ∀ f s, P s → P (s.countLegs f)

/-- What the operations of the Leg Engine on leg `l` come to: its record replaced, with and without telling the FBM,
counters of the LGE, and a monitor of the leg brought to IDLE. -/
structure LegWritesAt (l : LegId) (P : State → Prop) : Prop where
  setLeg : ∀ x s, P s → P (s.setLeg l x)
  putLeg : ∀ x s, P s → P (putLeg l x s)
  idleOne : ∀ sw s, P s → P (s.setMonitor l sw .idle)
  countLegs : ∀ f s, P s → P (s.countLegs f)

/-- What the operations of the Leg Engine on all legs come to. -/
structure LegWrites (P : State → Prop) : Prop where
  setLeg : ∀ l x s, P s → P (s.setLeg l x)
  putLeg : ∀ l x s, P s → P (putLeg l x s)
  idleOne : ∀ l sw s, P s → P (s.setMonitor l sw .idle)
  feedback : ∀ f s, P s → P (s.countFeedback f)
  countLegs : ∀ f s, P s → P (s.countLegs f)

namespace LegWritesAt

variable {l : LegId} {P : State → Prop} {s : State}

theorem judgeLeg (K : LegWritesAt l P) (h : P s) : P (judgeLeg l s) := by
  unfold Machine.judgeLeg
  dsimp only
  split
  · split
    · exact K.putLeg _ s h
    · exact h
  · split
    · exact K.putLeg _ s h
    · exact h
  · exact h

theorem requestLeg (K : LegWritesAt l P) (t : Target) (h : P s) : P (requestLeg l t s) := by
  have turnOn (sw : Switch) : P (requestTurnOn l sw s) := K.judgeLeg (K.setLeg _ s h)
  unfold Machine.requestLeg
  split
  · exact K.countLegs _ s h
  · cases hc : (s.leg l).cond with
    | heldOff g => exact K.countLegs _ s h
    | safe a b c => exact K.countLegs _ s h
    | off =>
      dsimp only
      split
      · exact h
      · exact turnOn _
    | gap p e r =>
      dsimp only
      split
      · exact K.setLeg _ s h
      · exact turnOn _
    | on side a m b d =>
      cases m with
      | none =>
        show P (requestElapsed l side t s)
        unfold requestElapsed
        split
        · exact K.putLeg _ s h
        · split
          · exact h
          · exact K.judgeLeg (K.putLeg _ s h)
      | some e =>
        cases d with
        | none => exact K.setLeg _ s h
        | some _ => exact K.setLeg _ _ (K.countLegs _ s h)

theorem suppressClamp (K : LegWritesAt l P) (h : P s) : P (suppressClamp l s) := by
  unfold Machine.suppressClamp
  split
  · exact K.putLeg _ s h
  · exact K.setLeg _ s h
  · exact h

theorem addCause (K : LegWritesAt l P) (x : LegCause) (b : Bool) (h : P s) : P (addCause l x b s) := by
  unfold Machine.addCause
  split
  · split
    · dsimp only
      split
      · exact K.suppressClamp (K.setLeg _ s h)
      · exact K.setLeg _ s h
    · exact K.judgeLeg (K.putLeg _ s h)
  · exact h

theorem setCauses (K : LegWritesAt l P) (cs : Causes) (h : P s) : P (setCauses l cs s) := by
  unfold Machine.setCauses
  split
  · split
    · exact K.putLeg _ s h
    · exact K.setLeg _ s h
  · exact h

theorem forceLeg (K : LegWritesAt l P) (n : ChanId) (h : P s) : P (forceLeg n l s) := by
  unfold Machine.forceLeg
  split
  · cases hc : (s.leg l).cond with
    | safe a b c => exact h
    | heldOff g => exact K.setLeg _ s h
    | off => exact K.setLeg _ s h
    | gap p e r => exact K.setLeg _ s h
    | on a b c d e => exact K.putLeg _ s h
  · exact h

theorem withdrawLeg (K : LegWritesAt l P) (n : ChanId) (h : P s) : P (withdrawLeg n l s) := by
  unfold Machine.withdrawLeg
  split
  · split
    · exact K.setLeg _ s h
    · exact h
  · exact h

theorem stopLeg (K : LegWritesAt l P) (h : P s) : P (stopLeg l s) := by
  unfold Machine.stopLeg
  split
  · exact K.putLeg _ s h
  · exact K.setLeg _ s h
  · exact h

theorem swapLeg (K : LegWritesAt l P) (old : Bank) (h : P s) : P (swapLeg old l s) := by
  have disable : P (swapDisableLeg l s) := by
    unfold swapDisableLeg
    split
    · exact K.putLeg _ s h
    · exact K.setLeg _ s h
  have single : P (swapToSingle l s) := by
    have idled := K.idleOne .lower s h
    unfold swapToSingle
    dsimp only
    split
    · exact K.putLeg _ _ idled
    · exact K.setLeg _ _ idled
    · exact K.suppressClamp idled
    · exact K.setLeg _ _ idled
  unfold Machine.swapLeg
  split
  · exact h
  · exact K.setLeg _ s h
  · exact K.setLeg _ s h
  · exact disable
  · exact h
  · exact single
  · exact disable
  · exact K.setLeg _ s h
  · exact h

end LegWritesAt

namespace LegWrites

variable {P : State → Prop} {s : State}

theorem legAt (K : LegWrites P) (l : LegId) : LegWritesAt l P where
  setLeg := K.setLeg l
  putLeg := K.putLeg l
  idleOne := K.idleOne l
  countLegs := K.countLegs

theorem judgeLeg (K : LegWrites P) (l : LegId) (h : P s) : P (judgeLeg l s) := (K.legAt l).judgeLeg h

theorem requestLeg (K : LegWrites P) (l : LegId) (t : Target) (h : P s) : P (requestLeg l t s) :=
  (K.legAt l).requestLeg t h

theorem setCauses (K : LegWrites P) (l : LegId) (cs : Causes) (h : P s) : P (setCauses l cs s) :=
  (K.legAt l).setCauses cs h

theorem stopLeg (K : LegWrites P) (l : LegId) (h : P s) : P (stopLeg l s) := (K.legAt l).stopLeg h

theorem swapLegs (K : LegWrites P) (old : Bank) (h : P s) : P (forLegs (Machine.swapLeg old) s) :=
  forLegs_keeps (fun l _ ht => (K.legAt l).swapLeg old ht) h

/-- A condition that the writes to legs keep is kept by each operation of the Leg Engine. -/
theorem legsKept (K : LegWrites P) : LegsKept P where
  judge l _ := K.judgeLeg l
  cause l x b _ := (K.legAt l).addCause x b
  request l t _ := K.requestLeg l t
  force n l _ := (K.legAt l).forceLeg n
  withdraw n l _ := (K.legAt l).withdrawLeg n
  causes l cs _ := K.setCauses l cs
  suppress l _ := (K.legAt l).suppressClamp
  stop l _ := K.stopLeg l
  turnOff l s := K.putLeg l _ s
  minOnEnd l _ _ _ _ _ s _ := K.setLeg l _ s
  feedback := K.feedback
  countLegs := K.countLegs

end LegWrites

namespace LegsKept

variable {P : State → Prop} {s : State}

theorem openSafeLegs (K : LegsKept P) (h : P s) : P (openSafeLegs s) :=
  forLegs_keeps (fun l t ht => K.suppress l t ht) h

theorem disarmLegs (K : LegsKept P) (h : P s) : P (disarmLegs s) :=
  forLegs_keeps (fun l t ht => K.suppress l _ (K.stop l t ht)) h

theorem restartLegs (K : LegsKept P) (h : P s) : P (restartLegs s) :=
  K.countLegs _ _ (forLegs_keeps (fun l t ht => K.turnOff l t ht) h)

theorem haltLegs (K : LegsKept P) (h : P s) : P (haltLegs s) := by
  refine forLegs_keeps (fun l t ht => ?_) h
  split
  · exact ht
  · exact K.cause l _ _ t ht

theorem removeCause (K : LegsKept P) (l : LegId) (x : LegCause) (h : P s) : P (removeCause l x s) := by
  unfold Machine.removeCause
  split
  · exact K.causes l _ s h
  · exact h

end LegsKept

/-- A condition that does not look at the legs and the monitors is kept by all that happens to them. -/
theorem LegsKept.of_same {P : State → Prop} (h : ∀ s t, SameButLegs s t → P s → P t) : LegsKept P :=
  LegWrites.legsKept
    { setLeg := fun l x s => h _ _ (.setLeg l x s)
      putLeg := fun l x s => h _ _ (putLeg_same l x s)
      idleOne := fun l sw s => h _ _ (.setMonitor l sw .idle s)
      feedback := fun f s => h _ _ (.countFeedback f s)
      countLegs := fun f s => h _ _ (.countLegs f s) }

/-- `P` is kept by every change of a block but those of the banks, the pins, the ports, node time and the queue. -/
structure QuietKept (P : State → Prop) : Prop extends LegsKept P where
  monitor : ∀ l sw m s, P s → P (s.setMonitor l sw m)
  idle : ∀ s, P s → P s.idleMonitors
  record : ∀ b s, b.edgeLeg = none → P s → P (report b s)
  capture : ∀ l sw d c s, P s → P (captureEdge l sw d c s)
  ctu : ∀ x s, x.nodeTime = s.ctu.nodeTime → P s → P (s.setCtu x)
  ncu : ∀ x s, P s → P (s.setNcu x)
  pulses : ∀ x s, P s → P (s.setEsu { s.esu with pulses := x })
  countEntries : ∀ f s, P s → P (s.countEntries f)
  schedule : ∀ es s, es.Sublist s.esu.schedule → P s → P (s.setSchedule es)
  cancel : ∀ s, P s → P (s.setBks { s.bks with pending := none })

namespace QuietKept

variable {P : State → Prop} {s : State}

theorem discard (K : QuietKept P) (keep : SchedEntry → Bool) (r : DiscardReason) (h : P s) :
    P (discardEntries keep r s) := by
  unfold discardEntries
  split
  · exact h
  · exact K.record _ _ rfl (K.countEntries _ _ (K.schedule _ s List.filter_sublist h))

theorem cancelCommit (K : QuietKept P) (r : CancelReason) (h : P s) : P (cancelCommit r s) := by
  unfold Machine.cancelCommit
  split
  · exact h
  · exact K.record _ _ rfl (K.cancel s h)

theorem haltEnter (K : QuietKept P) (x : HaltCause) (h : P s) : P (haltEnter x s) := by
  have recorded : P (haltRecorded x s) := K.record _ _ rfl (K.ncu _ s h)
  rw [haltEnter_eq]
  exact K.ctu _ _ rfl (K.cancelCommit _ (K.pulses _ _ (K.discard _ _ (K.toLegsKept.haltLegs recorded))))

theorem haltFurther (K : QuietKept P) (x : HaltCause) (h : P s) : P (haltFurther x s) :=
  K.toLegsKept.haltLegs (K.record _ _ rfl (K.ncu _ s h))

theorem monitorKept (K : QuietKept P) : MonitorKept P where
  judge := K.judge
  cause := K.cause
  monitor l sw m s _ := K.monitor l sw m s
  feedback := K.feedback
  record := K.record
  capture := K.capture
  enterHalt x _ _ _ h := K.haltEnter x h
  furtherHalt x _ _ h := K.haltFurther x h

theorem takeStrobe (K : QuietKept P) (x : StrobeId) (h : P s) : P (takeStrobe x s) := by
  unfold Machine.takeStrobe
  dsimp only
  split
  · exact K.pulses _ _ (K.countEntries _ s h)
  · exact K.pulses _ _ (K.countEntries _ s h)

theorem takeEntries (K : QuietKept P) (es : List SchedEntry) (h : P s) : P (takeEntries es s) := by
  unfold Machine.takeEntries
  induction es generalizing s with
  | nil => exact h
  | cons e es ih =>
    have taken : P (takeWork e.work s) := by
      unfold takeWork
      split
      · exact K.request _ _ s h
      · exact K.takeStrobe _ h
    exact ih taken

theorem takeDecoded (K : QuietKept P) (n : Half) (h : P s) : P (takeDecoded n s) :=
  K.takeEntries _ (K.schedule _ s List.filter_sublist h)

theorem scheduleTake (K : QuietKept P) (h : P s) :
    P (Machine.takeEntries (splitDue s.esu.schedule).1 (s.setSchedule (splitDue s.esu.schedule).2)) := by
  refine K.takeEntries _ (K.schedule _ s ?_ h)
  cases s.esu.schedule with
  | nil => exact .refl _
  | cons e rest => exact ((List.dropWhile_suffix _).sublist).trans (List.sublist_cons_self e rest)

theorem disarmNode (K : QuietKept P) (h : P s) : P (disarmNode s) := by
  have standby : P ((s.idleMonitors).setNode .standby HaltSet.empty) := K.ncu _ _ (K.idle s h)
  have legs : P (disarmLegs (leaveOperation ((s.idleMonitors).setNode .standby HaltSet.empty))) :=
    K.toLegsKept.disarmLegs (K.ctu _ _ rfl standby)
  exact K.cancelCommit _ (K.pulses _ _ (K.discard _ _ legs))

theorem resumeNode (K : QuietKept P) (h : P s) : P (resumeNode s) := by
  have standby : P ((s.idleMonitors).setNode .standby HaltSet.empty) := K.ncu _ _ (K.idle s h)
  unfold Machine.resumeNode
  exact forLegs_keeps (fun l t ht => K.toLegsKept.removeCause l _ ht) (K.toLegsKept.openSafeLegs standby)

end QuietKept

namespace ProtKept

variable {P : State → Prop} {s t : State}

theorem faultAssertion (K : ProtKept P) (hpins : ∀ x s, P s → P (s.setPins x)) (n : ChanId)
    (ht : execFaultAssertion n s = .next t) (h : P s) : P t := by
  have pinned : P (s.setFaultPin n (s.protParams n).assertLevel) := hpins _ s h
  simp only [execFaultAssertion, Host.Outcome.next.injEq] at ht
  subst ht
  split
  · exact h
  · split
    · exact K.channelAsserts n pinned
    · exact pinned

theorem faultDeassertion (K : ProtKept P) (hpins : ∀ x s, P s → P (s.setPins x)) (n : ChanId)
    (ht : execFaultDeassertion n s = .next t) (h : P s) : P t := by
  have pinned : P (s.setFaultPin n (otherLevel (s.protParams n).assertLevel)) := hpins _ s h
  simp only [execFaultDeassertion, Host.Outcome.next.injEq] at ht
  subst ht
  split
  · exact K.channelDeasserts n pinned
  · exact pinned

end ProtKept

/-- A swap up to its legs: the banks exchanged, and the COMMIT-DONE record created (R139 step 1). -/
def exchangeRecorded (f : CommitForm) (s : State) : State :=
  report (.commitDone f (exchangeBanks s).bks.active (exchangeBanks s).ctu.cycle) (exchangeBanks s)

/-- What does not look at legs and monitors, and survives a record, survives the legs' part of a swap. -/
theorem swapLegs_of_same {P : State → Prop} (hs : ∀ s t, SameButLegs s t → P s → P t)
    (hr : ∀ b s, b.edgeLeg = none → P s → P (report b s)) (f : CommitForm) {s : State} (h : P (exchangeBanks s)) :
    P (forLegs (swapLeg s.activeBank) (exchangeRecorded f s)) :=
  hs _ _ (.ofForLegs (fun l t => swapLeg_same s.activeBank l t) _) (hr _ _ rfl h)

/-- `P` is kept by every change of a block, the swap taken up to its legs; `Q` holds before the first
event of a command. -/
structure BlocksKept (Q P : State → Prop) : Prop extends QuietKept P where
  begins : ∀ s, Q s → P s
  beginPending : ∀ x s, Q s → Q (s.setPending x)
  beginCiu : ∀ s, Q s → Q (endReceptionU s)
  beginCtu : ∀ x s, x.nodeTime = s.ctu.nodeTime → Q s → Q (s.setCtu x)
  beginRecord : ∀ b s, b.edgeLeg = none → Q s → Q (report b s)
  beginNcu : ∀ x s, Q s → Q (s.setNcu x)
  ciu : ∀ x s, (x.down.length ≤ 2 ∨ x.down.length ≤ s.ciu.down.length) →
    (x.up.length ≤ 2 ∨ x.up.length ≤ s.ciu.up.length) → P s → P (s.setCiu x)
  rpu : ∀ x s, x.queue = s.rpu.queue → x.accounting = s.rpu.accounting → P s → P (s.setRpu x)
  send : ∀ r rest s, removalHead s.rpu.queue = some (r, rest) → P s → P (sendRecord r rest s)
  mgu : ∀ x s, P s → P (s.setMgu x)
  pru : ∀ x s, P s → P (s.setPru x)
  pins : ∀ x s, P s → P (s.setPins x)
  decode : ∀ candidate number period i e s, (candidate - s.now).toNat < 65536 → P s →
    P (decodeEntry candidate number period i e s)
  gapEnd : ∀ l sw e s, (s.leg l).cond = .gap sw e false → reached s.now e = true → Q s →
    P (s.setLeg l { s.leg l with cond := .gap sw e true })
  settleEnd : ∀ l cs e k s, (s.leg l).cond = .safe cs (.settling e false) k → reached s.now e = true → Q s →
    P (s.setLeg l { s.leg l with cond := .safe cs (.settling e true) k })
  swapLegs : ∀ f s, (validate s.shadowBank = none ∨ s.bks.pending.isSome = true) → Q s →
    P (forLegs (Machine.swapLeg s.activeBank) (exchangeRecorded f s))
  shadow : ∀ b s, s.bks.pending = none → P s → P (s.setBks (s.bks.withShadow b))
  commit : ∀ g s, validate s.shadowBank = none → P s → P (s.setBks { s.bks with pending := some g })
  renew : ∀ s, P s → P ((s.setFbm Fbm.initial).setRpu Rpu.initial)
  hardReset : ∀ s, P s → P (hardReset s)
  tick : ∀ s, dueCommands s = [] → Q s → P (tick s)
  queue : ∀ x n s, P s → P ((s.setPending x).setFreeIndex n)

namespace BlocksKept

variable {Q P : State → Prop} {s : State}

theorem protKept (K : BlocksKept Q P) : ProtKept P :=
  { K.toQuietKept.monitorKept with force := K.force, withdraw := K.withdraw, causes := K.causes, pru := K.pru }

theorem swapBanks (K : BlocksKept Q P) (f : CommitForm)
    (hv : validate s.shadowBank = none ∨ s.bks.pending.isSome = true) (h : Q s) : P (swapBanks f s) := by
  have legs := K.swapLegs f s hv h
  exact K.protKept.swapChannels _ (K.protKept.swapMonitors _ (K.toQuietKept.discard _ _ legs))

theorem actEnum (K : BlocksKept Q P) (hop : Byte) (hn : s.ncu.state = .unaddressed ∨ s.ncu.state = .standby)
    (h : P s) : P (actEnum hop s) := by
  have addressed (a : Option Byte) : P (s.setAddress a) := K.ciu _ s (.inr le_rfl) (.inr le_rfl) h
  rcases hn with hn | hn
  · simp only [Machine.actEnum, hn]
    split
    · exact K.toLegsKept.openSafeLegs (K.ncu _ _ (addressed _))
    · exact addressed _
  · simp only [Machine.actEnum, hn]
    split
    · exact addressed _
    · exact K.ncu _ _ (addressed _)

theorem restartBlocks (K : BlocksKept Q P) (h : P s) : P (restartBlocks s) := by
  have standby : P ((s.idleMonitors).setNode .standby HaltSet.empty) := K.ncu _ _ (K.idle s h)
  have unlocked : P (restartCtu ((s.idleMonitors).setNode .standby HaltSet.empty)) := K.ctu _ _ rfl (K.ctu _ _ rfl standby)
  have legs : P (restartLegs (restartCtu ((s.idleMonitors).setNode .standby HaltSet.empty))) :=
    K.toLegsKept.restartLegs unlocked
  have schedule := K.countEntries (fun _ => EntryCounters.zero) _
    (K.pulses { s0 := none, s1 := none } _ (K.schedule [] _ (List.nil_sublist _) legs))
  exact K.ciu _ _ (.inr le_rfl) (.inr le_rfl) (K.mgu _ _ (K.pru Pru.initial _ (K.renew _ schedule)))

/-- A condition kept block by block is kept by the events of a step. -/
theorem stepKept (K : BlocksKept Q P) : StepKept Q P :=
  { K.toQuietKept.monitorKept with
    begins := K.begins
    beginPending := K.beginPending
    beginCiu := K.beginCiu
    beginCtu := fun x s hx _ => K.beginCtu x s hx
    beginRecord := K.beginRecord
    beginLock := fun s _ _ h => K.beginNcu _ _ (K.beginCtu _ s rfl h)
    ciu := fun x s _ => K.ciu x s
    ctu := fun x s hx _ => K.ctu x s hx
    rpu := K.rpu
    send := K.send
    mgu := K.mgu
    countEntries := K.countEntries
    countLegs := K.countLegs
    countProt := fun _ s h => K.pru _ s h
    feedbackPin := fun _ _ _ s h => K.pins _ s h
    discard := fun _ _ _ h => K.toQuietKept.discard _ _ h
    decode := fun c n p i e s _ => K.decode c n p i e s
    takeDecoded := fun _ _ h => K.toQuietKept.takeDecoded _ h
    scheduleTake := fun _ _ h => K.toQuietKept.scheduleTake h
    pulseEnd := fun _ s h => K.pulses _ s h
    request := fun l t s _ => K.request l t s
    stop := K.stop
    gapEnd := fun l sw e s hc hr h => K.judge l _ (K.gapEnd l sw e s hc hr h)
    settleEnd := fun l cs e k s hc hr h => K.judge l _ (K.settleEnd l cs e k s hc hr h)
    minOnEnd := K.minOnEnd
    clearLeg := fun l s h => K.causes l _ s h
    firstSeen := fun s _ h => K.ctu _ s rfl h
    faultAssertion := fun n _ _ ht h => K.protKept.faultAssertion K.pins n ht h
    faultDeassertion := fun n _ _ ht h => K.protKept.faultDeassertion K.pins n ht h
    trip := fun n _ _ v _ _ h => K.protKept.tripChannel n v h
    release := fun n _ _ _ h => K.protKept.releaseChannel n _ h
    swap := fun f _ hv h => K.swapBanks f hv h
    enum := fun hop _ hn h => K.actEnum hop hn h
    arm := fun s _ h => K.ncu _ _ (K.ctu _ _ rfl (K.ctu _ s rfl h))
    disarm := fun _ _ h => K.toQuietKept.disarmNode h
    resume := fun _ _ h => K.toQuietKept.resumeNode h
    restart := fun _ _ _ h =>
      forChans_keeps (fun n _ ht => K.protKept.readInput n ht)
        (K.toQuietKept.cancelCommit _ (K.mgu _ _ (K.record _ _ rfl (K.restartBlocks h))))
    shadow := K.shadow
    commit := fun g s _ => K.commit g s
    cancel := K.cancel
    hardReset := K.hardReset
    tick := K.tick
    queue := K.queue }

end BlocksKept

end Sys2Proof.Machine
end

section
/-! PROOF. The stores keep their bounds and the reports their balance (R56, R84, R147, R154). -/

namespace Sys2Proof.Machine

/-! ### The schedule's length -/

theorem length_insertEntry (now : Time) (e : SchedEntry) (es : List SchedEntry) :
    (insertEntry now e es).length = es.length + 1 := by
  induction es with
  | nil => rfl
  | cons x rest ih =>
    unfold insertEntry
    split
    · simp [ih]
    · rfl

/-- What is left of a schedule when the entries that any of `parts` supersedes are taken out (R58). -/
def unsuperseded (parts es : List SchedEntry) : List SchedEntry := es.filter fun x => !parts.any fun e => supersedes e x

theorem length_unsuperseded (parts es : List SchedEntry) :
    (unsuperseded parts es).length + supersededCount parts es = es.length := by
  have := List.length_eq_countP_add_countP (fun x => parts.any fun e => supersedes e x) (l := es)
  simp only [List.countP_eq_length_filter, Bool.not_eq_true] at this
  simp only [unsuperseded, supersededCount]
  rw [this, add_comm]
  congr 3
  funext x
  cases (parts.any fun e => supersedes e x) <;> rfl

@[simp] theorem schedule_placePart (e : SchedEntry) (s : State) :
    (placePart e s).esu.schedule =
      insertEntry s.now e (s.esu.schedule.filter fun x => !supersedes e x) := rfl

theorem filter_insertEntry_length_le (p : SchedEntry → Bool) (now : Time) (e : SchedEntry) (es : List SchedEntry) :
    ((insertEntry now e es).filter p).length ≤ (es.filter p).length + 1 := by
  induction es with
  | nil =>
    simp only [insertEntry]
    exact (List.length_filter_le _ _).trans (by simp)
  | cons x rest ih =>
    unfold insertEntry
    split
    · by_cases hx : p x
      · simpa [hx] using ih
      · simpa [hx] using ih
    · by_cases he : p e
      · simp [he]
      · simp [he]

/-- Placing an entry's parts one after another leaves at most what they do not supersede, and the parts (R57). -/
theorem length_placed_le (parts : List SchedEntry) (s : State) :
    (parts.foldl (fun t p => placePart p t) s).esu.schedule.length ≤
      (unsuperseded parts s.esu.schedule).length + parts.length := by
  induction parts generalizing s with
  | nil => simp [unsuperseded]
  | cons e rest ih =>
    refine (ih (placePart e s)).trans ?_
    have hinsert := filter_insertEntry_length_le (fun x => !rest.any fun p => supersedes p x) s.now e
      (s.esu.schedule.filter fun x => !supersedes e x)
    have hsame : (s.esu.schedule.filter fun x => !supersedes e x).filter (fun x => !rest.any fun p => supersedes p x) =
        unsuperseded (e :: rest) s.esu.schedule := by
      rw [unsuperseded, List.filter_filter]
      congr 1
      funext x
      simp [Bool.and_comm]
    rw [hsame] at hinsert
    simp only [unsuperseded, schedule_placePart, List.length_cons] at hinsert ⊢
    omega

/-- What decoding one entry can come to (R50, R51, R57): it is unclaimed, rejected, or placed where its parts fit. -/
theorem decodeEntry_cases (candidate : Time) (number period : Half) (i : Nat) (e : Entry) (s : State) :
    (claimant s.activeBank e.address = none ∧
        decodeEntry candidate number period i e s =
          s.countEntries fun k => { k with unclaimed := satInc k.unclaimed }) ∨
      (∃ r, decodeEntry candidate number period i e s = rejectEntry number i r e s) ∨
      ∃ d, claimant s.activeBank e.address = some d ∧ entryFault s.activeBank d period e = none ∧
        (expand s.activeBank d candidate number period e).length ≤
          64 - s.esu.schedule.length +
            supersededCount (expand s.activeBank d candidate number period e) s.esu.schedule ∧
        decodeEntry candidate number period i e s =
          ((expand s.activeBank d candidate number period e).foldl (fun t p => placePart p t) s).countEntries fun k =>
            { k with placed := satInc k.placed } := by
  unfold decodeEntry
  cases hd : claimant s.activeBank e.address with
  | none => exact .inl ⟨rfl, rfl⟩
  | some d =>
    cases hf : entryFault s.activeBank d period e with
    | some r => exact .inr (.inl ⟨r, by simp [hf]⟩)
    | none =>
      simp only [hf, scheduleLimit]
      by_cases hfull : 64 - s.esu.schedule.length +
          supersededCount (expand s.activeBank d candidate number period e) s.esu.schedule <
            (expand s.activeBank d candidate number period e).length
      · exact .inr (.inl ⟨.scheduleFull, if_pos hfull⟩)
      · exact .inr (.inr ⟨d, rfl, hf, Nat.le_of_not_lt hfull, if_neg hfull⟩)

/-- A decoded entry keeps the schedule within its limit (R56, R57). -/
theorem length_schedule_decodeEntry_le (candidate : Time) (number period : Half) (i : Nat) (e : Entry) {s : State}
    (h : s.esu.schedule.length ≤ 64) : (decodeEntry candidate number period i e s).esu.schedule.length ≤ 64 := by
  obtain ⟨-, hs⟩ | ⟨r, hs⟩ | ⟨d, -, -, hfits, hs⟩ := decodeEntry_cases candidate number period i e s
  · rw [hs]; exact h
  · rw [hs]; simpa [rejectEntry, State.countEntries] using h
  · have hplaced := length_placed_le (expand s.activeBank d candidate number period e) s
    have hcount := length_unsuperseded (expand s.activeBank d candidate number period e) s.esu.schedule
    rw [hs]
    simp only [State.countEntries, State.esu_setEsu]
    omega

section
variable (parts : List SchedEntry) (s : State)

/-- Placing parts changes the ESU alone. -/
theorem setEsu_placed : (parts.foldl (fun t p => placePart p t) s).setEsu s.esu = s := by
  induction parts generalizing s with
  | nil => rfl
  | cons e rest ih =>
    have placed := congrArg (State.setEsu s.esu) (ih (placePart e s))
    exact placed

theorem rpu_placed : (parts.foldl (fun t p => placePart p t) s).rpu = s.rpu := by
  have same := congrArg State.rpu (setEsu_placed parts s)
  exact same

theorem fbm_placed : (parts.foldl (fun t p => placePart p t) s).fbm = s.fbm := by
  have same := congrArg State.fbm (setEsu_placed parts s)
  exact same

end

/-! ### Stores -/

theorem storesBounded_of_le {s t : State} (h : StoresBounded s) (hq : t.rpu.queue.length ≤ 48)
    (hs : t.esu.schedule.length ≤ 64) (hc : t.ciu = s.ciu) : StoresBounded t := by
  obtain ⟨-, -, hdown, hup⟩ := h
  exact ⟨hq, hs, by rwa [hc], by rwa [hc]⟩

theorem storesBounded_report {s : State} (b : RecBody) (h : StoresBounded s) : StoresBounded (report b s) :=
  storesBounded_of_le h (report_bounded h.1) (by simpa using h.2.1) (ciu_report b s)

theorem storesBounded_of_legs {s t : State} (hs : SameButLegs s t) (h : StoresBounded s) : StoresBounded t :=
  storesBounded_of_le h (by rw [hs.rpu]; exact h.1) (by rw [hs.esu]; exact h.2.1) hs.ciu

/-- The bounds of the stores are kept block by block. -/
theorem blocksKept_storesBounded : BlocksKept StoresBounded StoresBounded where
  toLegsKept := .of_same fun _ _ hs h => storesBounded_of_legs hs h
  monitor _ _ _ _ h := h
  idle _ h := h
  record b s _ h := storesBounded_report b h
  capture l sw d c s h := by
    unfold captureEdge
    split
    · split
      · exact h
      · exact storesBounded_report _ h
    · exact h
  ctu _ _ _ h := h
  ncu _ _ h := h
  pulses _ _ h := h
  countEntries _ _ h := h
  schedule es s hes h := storesBounded_of_le h h.1 (hes.length_le.trans h.2.1) rfl
  cancel _ h := h
  begins _ h := h
  beginPending _ _ h := h
  beginCiu _ h := h
  beginCtu _ _ _ h := h
  beginRecord b s _ h := storesBounded_report b h
  beginNcu _ _ h := h
  ciu x s hdown hup h := by
    obtain ⟨hq, hs, hd, hu⟩ := h
    exact ⟨hq, hs, hdown.elim id fun hle => hle.trans hd, hup.elim id fun hle => hle.trans hu⟩
  rpu x s hq _ h := storesBounded_of_le h (by rw [State.rpu_setRpu, hq]; exact h.1) h.2.1 rfl
  send r rest s hr h := by
    have hlen := (removalHead_perm hr).length_eq
    have hq := h.1
    refine storesBounded_of_le h (show rest.length ≤ 48 from ?_) h.2.1 rfl
    simp only [List.length_cons] at hlen
    omega
  mgu _ _ h := h
  pru _ _ h := h
  pins _ _ h := h
  decode c n p i e s _ h := by
    have hlen := length_schedule_decodeEntry_le c n p i e h.2.1
    have hciu := (decodeEntry_outside c n p i e s).ciu
    refine storesBounded_of_le h ?_ hlen hciu
    obtain ⟨-, hs⟩ | ⟨r, hs⟩ | ⟨d, -, -, -, hs⟩ := decodeEntry_cases c n p i e s
    · rw [hs]; exact h.1
    · rw [hs]; exact report_bounded h.1
    · rw [hs]; exact (congrArg (fun x : Rpu => x.queue.length ≤ 48) (rpu_placed _ s)).mpr h.1
  gapEnd _ _ _ _ _ _ h := h
  settleEnd _ _ _ _ _ _ _ h := h
  swapLegs f _ _ h := swapLegs_of_same (fun _ _ hs h => storesBounded_of_legs hs h)
    (fun b _ _ h => storesBounded_report b h) f h
  shadow _ _ _ h := h
  commit _ _ _ h := h
  renew _ h := storesBounded_of_le h (Nat.zero_le _) h.2.1 rfl
  hardReset _ _ := ⟨Nat.zero_le _, Nat.zero_le _, Nat.zero_le _, Nat.zero_le _⟩
  tick _ _ h := h
  queue _ _ _ h := h

/-! ### Reports -/

/-- A created record increases an EDGE count by at most 1, and only that of its own leg (R84). -/
theorem edgeCounts_report_le (b : RecBody) (s : State) (l : LegId) :
    (report b s).fbm.edgeCounts.get l ≤ s.fbm.edgeCounts.get l + if b.edgeLeg = some l then 1 else 0 := by
  have enqueued (r : Record) (t : State) : (enqueue r t).fbm.edgeCounts.get l =
      if r.body.edgeLeg = some l then t.fbm.edgeCounts.get l + 1 else t.fbm.edgeCounts.get l :=
    edgeCounts_countEdge _ _ _ l
  have evicted (v : Record) (rest : List Record) (t : State) :
      (evict v rest t).fbm.edgeCounts.get l ≤ t.fbm.edgeCounts.get l := by
    refine (edgeCounts_countEdge _ _ _ l).trans_le ?_
    split <;> omega
  unfold report offerRecord
  split
  · rw [enqueued]
    simp only [advanceSeq, State.fbm_setRpu]
    split <;> omega
  · split
    · next v rest _ =>
      have := evicted v rest (advanceSeq s)
      rw [enqueued]
      simp only [advanceSeq, State.fbm_setRpu] at this ⊢
      split <;> omega
    · exact Nat.le_add_right _ _

theorem reportsOk_report {s : State} {b : RecBody}
    (hb : ∀ l, b.edgeLeg = some l → s.fbm.edgeCounts.get l < 2) (h : ReportsOk s) : ReportsOk (report b s) := by
  rw [reportsOk_iff] at h ⊢
  obtain ⟨hq, hfit, hedge⟩ := h
  refine ⟨report_bounded hq, report_fit hfit, fun l => ?_⟩
  have hle := edgeCounts_report_le b s l
  have hl := hedge l
  split at hle
  · next heq =>
    have := hb l heq
    omega
  · omega

theorem reportsOk_of_balance {s t : State} (h : ReportsOk s) (hq : t.rpu.queue.length ≤ 48) (hfit : ReportsFit t)
    (he : ∀ l, t.fbm.edgeCounts.get l ≤ s.fbm.edgeCounts.get l) : ReportsOk t :=
  (reportsOk_iff t).2 ⟨hq, hfit, fun l => (he l).trans (((reportsOk_iff s).1 h).2.2 l)⟩

theorem reportsOk_captureEdge (l : LegId) (sw : Switch) (d : Bool) (c : Time) {s : State} (h : ReportsOk s) :
    ReportsOk (captureEdge l sw d c s) := by
  unfold captureEdge
  split
  · split
    · exact reportsOk_of_balance h h.1 (refuseCapture_fit ((reportsOk_iff s).1 h).2.1) (fun _ => le_rfl)
    · next hlt =>
      refine reportsOk_report (fun k hk => ?_) h
      simp only [RecBody.edgeLeg, Option.some.injEq] at hk
      subst hk
      omega
  · exact h

theorem reportsOk_sendRecord {r : Record} {rest : List Record} {s : State}
    (hr : removalHead s.rpu.queue = some (r, rest)) (h : ReportsOk s) : ReportsOk (sendRecord r rest s) := by
  have hperm := removalHead_perm hr
  have hlen := hperm.length_eq
  have hq := h.1
  refine reportsOk_of_balance h (show rest.length ≤ 48 from ?_) (sendRecord_fit hperm ((reportsOk_iff s).1 h).2.1)
    (fun l => ?_)
  · simp only [List.length_cons] at hlen
    omega
  · refine (edgeCounts_countEdge _ _ _ l).trans_le ?_
    split <;> omega

theorem reportsOk_initial {s : State} (hr : s.rpu = Rpu.initial) (he : s.fbm = Fbm.initial) : ReportsOk s := by
  rw [reportsOk_iff, ReportsFit, hr, he]
  refine ⟨Nat.zero_le _, ⟨fun k => ?_, fun l => ?_⟩, fun l => ?_⟩
  · cases k <;> exact ⟨rfl, rfl⟩
  · simp [Fbm.initial, Rpu.initial, countEdges]
  · simp [Fbm.initial]

/-- The balance of the reports is kept block by block. -/
theorem blocksKept_reportsOk : BlocksKept ReportsOk ReportsOk where
  toLegsKept := .of_same fun _ _ hs h => h.of_legs hs
  monitor _ _ _ _ h := h
  idle _ h := h
  record b _ hb h := reportsOk_report (fun l hl => by simp [hb] at hl) h
  capture l sw d c _ h := reportsOk_captureEdge l sw d c h
  ctu _ _ _ h := h
  ncu _ _ h := h
  pulses _ _ h := h
  countEntries _ _ h := h
  schedule _ _ _ h := h
  cancel _ h := h
  begins _ h := h
  beginPending _ _ h := h
  beginCiu _ h := h
  beginCtu _ _ _ h := h
  beginRecord b _ hb h := reportsOk_report (fun l hl => by simp [hb] at hl) h
  beginNcu _ _ h := h
  ciu _ _ _ _ h := h
  rpu x s hq ha h := by
    rw [reportsOk_iff, ReportsFit] at h ⊢
    simpa only [State.rpu_setRpu, State.fbm_setRpu, hq, ha] using h
  send r rest _ hr h := reportsOk_sendRecord hr h
  mgu _ _ h := h
  pru _ _ h := h
  pins _ _ h := h
  decode c n p i e s _ h := by
    obtain ⟨-, hs⟩ | ⟨r, hs⟩ | ⟨d, -, -, -, hs⟩ := decodeEntry_cases c n p i e s
    · rw [hs]; exact h
    · rw [hs]
      exact reportsOk_report (s := s.countEntries _) (fun l hl => by simp [RecBody.edgeLeg] at hl) h
    · rw [hs]
      exact ReportsOk.of_eq (rpu_placed _ s) (congrArg Fbm.edgeCounts (fbm_placed _ s)) h
  gapEnd _ _ _ _ _ _ h := h
  settleEnd _ _ _ _ _ _ _ h := h
  swapLegs f _ _ h := swapLegs_of_same (fun _ _ hs h => h.of_legs hs)
    (fun _ _ hb h => reportsOk_report (fun l hl => by simp [hb] at hl) h) f h
  shadow _ _ _ h := h
  commit _ _ _ h := h
  renew _ _ := reportsOk_initial rfl rfl
  hardReset _ _ := reportsOk_initial rfl rfl
  tick _ _ h := h
  queue _ _ _ h := h

/-- Settles O7: both conditions are kept block by block, and so by every step. -/
theorem stepsKeepStoresBoundedAndReportsAccounted : Obligations.StepsKeepStoresBoundedAndReportsAccounted :=
  ⟨fun _ _ h hstep => blocksKept_storesBounded.stepKept.step hstep h,
    fun _ _ h hstep => blocksKept_reportsOk.stepKept.step hstep h⟩

end Sys2Proof.Machine
end

section
/-! PROOF. The active bank stays valid (R128, R135), and the schedule ordered (R56). -/

namespace Sys2Proof.Machine

/-! ### Banks -/

theorem banksValid_of_eq {s t : State} (h : BanksValid s) (hb : t.bks = s.bks) : BanksValid t := by
  simpa only [BanksValid, State.activeBank, State.shadowBank, hb] using h

@[simp] theorem activeBank_exchangeBanks (s : State) : (exchangeBanks s).activeBank = s.shadowBank := by
  cases h : s.bks.active <;> simp [exchangeBanks, State.activeBank, State.shadowBank, otherBank, h]

theorem bks_decodeEntry (c : Time) (n p : Half) (i : Nat) (e : Entry) (s : State) :
    (decodeEntry c n p i e s).bks = s.bks := by
  obtain ⟨-, hs⟩ | ⟨r, hs⟩ | ⟨d, -, -, -, hs⟩ := decodeEntry_cases c n p i e s
  · rw [hs]; rfl
  · rw [hs]; exact bks_report _ _
  · have same := congrArg State.bks (setEsu_placed (expand s.activeBank d c n p e) s)
    rw [hs]; exact same

theorem banksValid_initial {s : State} (h : s.bks = Bks.initial) : BanksValid s := by
  rw [BanksValid, State.activeBank, h]
  exact ⟨by decide, fun hp => absurd hp (by simp [Bks.initial])⟩

/-- The banks' validity is kept block by block: a bank becomes active or the target of a commit only after it has passed
validation (R134, R135). -/
theorem blocksKept_banksValid : BlocksKept BanksValid BanksValid where
  toLegsKept := .of_same fun _ _ hs h => banksValid_of_eq h hs.bks
  monitor _ _ _ _ h := h
  idle _ h := h
  record b s _ h := banksValid_of_eq h (bks_report b s)
  capture l sw d c s h := banksValid_of_eq h (captureEdge_same l sw d c s).bks
  ctu _ _ _ h := h
  ncu _ _ h := h
  pulses _ _ h := h
  countEntries _ _ h := h
  schedule _ _ _ h := h
  cancel _ h := ⟨h.1, fun hp => absurd hp (by simp)⟩
  begins _ h := h
  beginPending _ _ h := h
  beginCiu _ h := h
  beginCtu _ _ _ h := h
  beginRecord b s _ h := banksValid_of_eq h (bks_report b s)
  beginNcu _ _ h := h
  ciu _ _ _ _ h := h
  rpu _ _ _ _ h := h
  send _ _ _ _ h := h
  mgu _ _ h := h
  pru _ _ h := h
  pins _ _ h := h
  decode c n p i e s _ h := banksValid_of_eq h (bks_decodeEntry c n p i e s)
  gapEnd _ _ _ _ _ _ h := h
  settleEnd _ _ _ _ _ _ _ h := h
  swapLegs f s hv h := by
    obtain ⟨-, hshadow⟩ := h
    have exchanged : BanksValid (exchangeBanks s) :=
      ⟨(activeBank_exchangeBanks s).symm ▸ hv.elim id hshadow, fun hp => absurd hp (by simp [exchangeBanks])⟩
    exact swapLegs_of_same (fun _ _ hs h => banksValid_of_eq h hs.bks) (fun b t _ h => banksValid_of_eq h (bks_report b t))
      f exchanged
  shadow b s hp h :=
    ⟨(activeBank_setBks_withShadow b s).symm ▸ h.1, fun hsome => absurd hsome (by simp [hp])⟩
  commit _ _ hv h := ⟨h.1, fun _ => hv⟩
  renew _ h := h
  hardReset _ _ := banksValid_initial rfl
  tick _ _ h := h
  queue _ _ _ h := h

/-- Settles O9: the banks' validity is kept block by block, and so by every step. -/
theorem stepsKeepBanksValid : Obligations.StepsKeepBanksValid :=
  fun _ _ h hstep => blocksKept_banksValid.stepKept.step hstep h

/-! ### The schedule as a pairwise order -/

theorem dueOrdered_iff (now : Time) (es : List SchedEntry) :
    dueOrdered now es ↔ es.Pairwise fun e x => aheadOf now e ≤ aheadOf now x := by
  induction es with
  | nil => simp [dueOrdered]
  | cons e rest ih =>
    cases rest with
    | nil => simp [dueOrdered]
    | cons x rest =>
      rw [dueOrdered, ih, List.pairwise_cons (a := e)]
      refine and_congr_left fun hrest => ⟨fun hle y hy => ?_, fun h => h x (by simp)⟩
      rcases List.mem_cons.1 hy with rfl | hy
      · exact hle
      · exact hle.trans ((List.pairwise_cons.1 hrest).1 y hy)

theorem destDistinct_iff (es : List SchedEntry) :
    destDistinct es ↔ es.Pairwise fun e x => ¬(x.work.dest = e.work.dest ∧ x.due = e.due) := by
  induction es with
  | nil => simp [destDistinct]
  | cons e rest ih => rw [destDistinct, ih, List.pairwise_cons]

/-- A schedule is ordered, none of its entries too far ahead, no two with one destination and due time (R56). -/
def SchedOrdered (now : Time) (es : List SchedEntry) : Prop :=
  (es.Pairwise fun e x => aheadOf now e ≤ aheadOf now x) ∧ (∀ e ∈ es, aheadOf now e < 2 ^ 31) ∧
    es.Pairwise fun e x => ¬(x.work.dest = e.work.dest ∧ x.due = e.due)

theorem scheduleOrdered_iff (s : State) : ScheduleOrdered s ↔ SchedOrdered s.now s.esu.schedule := by
  rw [ScheduleOrdered, dueOrdered_iff, destDistinct_iff, SchedOrdered]

theorem SchedOrdered.sublist {now : Time} {es fs : List SchedEntry} (h : SchedOrdered now es) (hs : fs.Sublist es) :
    SchedOrdered now fs :=
  ⟨h.1.sublist hs, fun e he => h.2.1 e (hs.subset he), h.2.2.sublist hs⟩

/-! ### Placing an entry -/

theorem insertEntry_perm (now : Time) (e : SchedEntry) (es : List SchedEntry) : (insertEntry now e es).Perm (e :: es) := by
  induction es with
  | nil => exact .refl _
  | cons x rest ih =>
    unfold insertEntry
    split
    · exact (ih.cons x).trans (.swap _ _ _)
    · exact .refl _

theorem insertEntry_ordered {now : Time} (e : SchedEntry) {es : List SchedEntry}
    (h : es.Pairwise fun a b => aheadOf now a ≤ aheadOf now b) :
    (insertEntry now e es).Pairwise fun a b => aheadOf now a ≤ aheadOf now b := by
  induction es with
  | nil => simp [insertEntry]
  | cons x rest ih =>
    obtain ⟨hx, hrest⟩ := List.pairwise_cons.1 h
    unfold insertEntry
    split
    · next hle =>
      refine List.pairwise_cons.2 ⟨fun y hy => ?_, ih hrest⟩
      rcases List.mem_cons.1 ((insertEntry_perm now e rest).mem_iff.1 hy) with rfl | hy
      · exact hle
      · exact hx y hy
    · next hlt =>
      have he : aheadOf now e ≤ aheadOf now x := (Nat.lt_of_not_le hlt).le
      refine List.pairwise_cons.2 ⟨fun y hy => ?_, h⟩
      rcases List.mem_cons.1 hy with rfl | hy
      · exact he
      · exact he.trans (hx y hy)

/-- Placing an entry that lies less than 2^31 ticks ahead keeps the order, its supersession first (R56, R58). -/
theorem SchedOrdered.place {now : Time} {es : List SchedEntry} (h : SchedOrdered now es) {e : SchedEntry}
    (he : aheadOf now e < 2 ^ 31) : SchedOrdered now (insertEntry now e (es.filter fun x => !supersedes e x)) := by
  obtain ⟨hord, hahead, hdist⟩ := h.sublist (List.filter_sublist (p := fun x => !supersedes e x))
  have hperm := insertEntry_perm now e (es.filter fun x => !supersedes e x)
  refine ⟨insertEntry_ordered e hord, fun x hx => ?_, ?_⟩
  · rcases List.mem_cons.1 (hperm.mem_iff.1 hx) with rfl | hx
    · exact he
    · exact hahead x hx
  · refine (List.Perm.pairwise_iff (fun {a b} hab hba => hab ⟨hba.1.symm, hba.2.symm⟩) hperm).2 ?_
    refine List.pairwise_cons.2 ⟨fun x hx => ?_, hdist⟩
    have hkept := (List.mem_filter.1 hx).2
    simpa [supersedes, imp_iff_not_or] using hkept

theorem SchedOrdered.placed {parts : List SchedEntry} {s : State}
    (hparts : ∀ e ∈ parts, aheadOf s.now e < 2 ^ 31) (h : SchedOrdered s.now s.esu.schedule) :
    SchedOrdered s.now (parts.foldl (fun t p => placePart p t) s).esu.schedule := by
  induction parts generalizing s with
  | nil => exact h
  | cons e rest ih =>
    exact ih (s := placePart e s) (fun x hx => hparts x (List.mem_cons_of_mem e hx)) (h.place (hparts e (by simp)))

/-- The entries that an entry expands to are due less than 2^18 ticks after a candidate mark's distance (Table 15). -/
theorem aheadOf_expand_lt {b : Bank} {d : Dest} {mark now : Time} {n p : Half} {e : Entry} {x : SchedEntry}
    (hm : (mark - now).toNat < 65536) (hx : x ∈ expand b d mark n p e) : aheadOf now x < 2 ^ 31 := by
  have sum (k : Time) (hk : k.toNat < 2 ^ 20) : (mark + k - now).toNat < 2 ^ 31 := by
    have hsub : mark + k - now = (mark - now) + k := by ring
    rw [hsub, BitVec.toNat_add]
    omega
  have half (h : Half) : (h.setWidth 32 : Time).toNat < 65536 := by
    simp only [BitVec.toNat_setWidth]
    omega
  have two (j k : Time) (hj : j.toNat < 65536) (hk : k.toNat < 65536) : (mark + j + k - now).toNat < 2 ^ 31 := by
    rw [add_assoc]
    refine sum _ ?_
    rw [BitVec.toNat_add]
    omega
  have centre : (BitVec.ofNat 32 ((p.toNat - e.width.toNat) / 2)).toNat < 65536 := by
    simp only [BitVec.toNat_ofNat]
    have := p.isLt
    omega
  have hoff := half e.offset
  have hwid := half e.width
  unfold expand at hx
  cases hk : e.kind with
  | drive =>
    simp only [hk, List.mem_singleton] at hx
    subst hx
    exact sum _ (by omega)
  | pulse =>
    simp only [hk, List.mem_cons, List.not_mem_nil, or_false] at hx
    rcases hx with rfl | rfl
    · exact sum _ (by omega)
    · exact two _ _ hoff hwid
  | centred =>
    simp only [hk, List.mem_cons, List.not_mem_nil, or_false] at hx
    rcases hx with rfl | rfl
    · exact sum _ (by omega)
    · exact two _ _ centre hwid
  | strobe =>
    simp only [hk, List.mem_singleton] at hx
    subst hx
    exact sum _ (by omega)

/-! ### One tick -/

theorem headDue_of_noneDue {s : State} (h : dueCommands s = []) : headDue s = false := by
  simp only [dueCommands, List.append_eq_nil_iff, whenDue] at h
  obtain ⟨⟨⟨⟨⟨-, hhead⟩, -⟩, -⟩, -⟩, -⟩ := h
  by_contra hdue
  simp [Bool.not_eq_false _ ▸ hdue] at hhead

/-- A tick with no entry due brings every entry one tick nearer. -/
theorem SchedOrdered.tick {now : Time} {es : List SchedEntry} (h : SchedOrdered now es)
    (hhead : timeDue now (es.head?.map SchedEntry.due) = false) : SchedOrdered (now + 1) es := by
  obtain ⟨hord, hahead, hdist⟩ := h
  have positive : ∀ e ∈ es, 1 ≤ aheadOf now e := by
    cases es with
    | nil => simp
    | cons e rest =>
      have he : 1 ≤ aheadOf now e := by
        have hahead := hahead e (by simp)
        simp only [List.head?_cons, Option.map_some, timeDue, reached, decide_eq_false_iff_not] at hhead
        simp only [aheadOf, BitVec.toNat_sub] at hahead ⊢
        simp only [BitVec.toNat_sub] at hhead
        omega
      intro x hx
      rcases List.mem_cons.1 hx with rfl | hx
      · exact he
      · exact he.trans ((List.pairwise_cons.1 hord).1 x hx)
  have nearer : ∀ e ∈ es, aheadOf (now + 1) e = aheadOf now e - 1 := by
    intro e he
    have hpos := positive e he
    have hone : (1 : Time).toNat = 1 := rfl
    simp only [aheadOf, BitVec.toNat_sub, BitVec.toNat_add, hone] at hpos ⊢
    omega
  refine ⟨?_, fun e he => ?_, hdist⟩
  · refine hord.imp_of_mem fun {a b} ha hb hab => ?_
    rw [nearer a ha, nearer b hb]
    omega
  · rw [nearer e he]
    exact (Nat.sub_le _ _).trans_lt (hahead e he)

theorem scheduleOrdered_of_eq {s t : State} (h : ScheduleOrdered s) (he : t.esu.schedule = s.esu.schedule)
    (hn : t.now = s.now) : ScheduleOrdered t := by
  simpa only [ScheduleOrdered, he, hn] using h

theorem now_of_ctu {s t : State} (h : t.ctu = s.ctu) : t.now = s.now := by rw [State.now, h, State.now]

/-- The order of the schedule is kept block by block. -/
theorem blocksKept_scheduleOrdered : BlocksKept ScheduleOrdered ScheduleOrdered where
  toLegsKept := .of_same fun _ _ hs h => scheduleOrdered_of_eq h (by rw [hs.esu]) hs.now
  monitor _ _ _ _ h := h
  idle _ h := h
  record b s _ h := scheduleOrdered_of_eq h (by simp) (now_of_ctu (by simp))
  capture l sw d c s h :=
    have same := captureEdge_same l sw d c s
    scheduleOrdered_of_eq h (by rw [same.esu]) (now_of_ctu same.ctu)
  ctu x s hx h := scheduleOrdered_of_eq (t := s.setCtu x) h rfl hx
  ncu _ _ h := h
  pulses _ _ h := h
  countEntries _ _ h := h
  schedule es s hes h := (scheduleOrdered_iff (s.setSchedule es)).2 (((scheduleOrdered_iff s).1 h).sublist hes)
  cancel _ h := h
  begins _ h := h
  beginPending _ _ h := h
  beginCiu _ h := h
  beginCtu x s hx h := scheduleOrdered_of_eq (t := s.setCtu x) h rfl hx
  beginRecord b s _ h := scheduleOrdered_of_eq h (by simp) (now_of_ctu (by simp))
  beginNcu _ _ h := h
  ciu _ _ _ _ h := h
  rpu _ _ _ _ h := h
  send _ _ _ _ h := h
  mgu _ _ h := h
  pru _ _ h := h
  pins _ _ h := h
  decode c n p i e s hc h := by
    have hnow := (decodeEntry_outside c n p i e s).now
    rw [scheduleOrdered_iff] at h ⊢
    rw [hnow]
    obtain ⟨-, hs⟩ | ⟨r, hs⟩ | ⟨d, -, -, -, hs⟩ := decodeEntry_cases c n p i e s
    · rw [hs]; exact h
    · rw [hs]
      simpa [rejectEntry, State.countEntries] using h
    · rw [hs]
      exact SchedOrdered.placed (fun x hx => aheadOf_expand_lt hc hx) h
  gapEnd _ _ _ _ _ _ h := h
  settleEnd _ _ _ _ _ _ _ h := h
  swapLegs f _ _ h := swapLegs_of_same (fun _ _ hs h => scheduleOrdered_of_eq h (by rw [hs.esu]) hs.now)
    (fun b s _ h => scheduleOrdered_of_eq h (by simp) (now_of_ctu (by simp))) f h
  shadow _ _ _ h := h
  commit _ _ _ h := h
  renew _ h := h
  hardReset _ _ := ⟨trivial, fun _ he => absurd he List.not_mem_nil, trivial⟩
  tick s hd h := (scheduleOrdered_iff (tick s)).2 (((scheduleOrdered_iff s).1 h).tick (headDue_of_noneDue hd))
  queue _ _ _ h := h

/-- Settles O11: the order of the schedule is kept block by block, and so by every step. -/
theorem stepsKeepScheduleOrdered : Obligations.StepsKeepScheduleOrdered :=
  fun _ _ h hstep => blocksKept_scheduleOrdered.stepKept.step hstep h

end Sys2Proof.Machine
end

section
/-! PROOF. Each fault channel's state fits the reading of its input (R91): what the channels' own events make of the
channel states, and that nothing else touches them. -/

namespace Sys2Proof.Machine

/-! ### What the other blocks' events leave of the channels -/

/-- From `s` to `t` no channel changes, and no reading of a fault input. -/
structure SameChannels (s t : State) : Prop where
  channel : ∀ n, t.channel n = s.channel n
  activeBank : t.activeBank = s.activeBank
  pins : t.pins = s.pins

namespace SameChannels

theorem refl (s : State) : SameChannels s s := ⟨fun _ => rfl, rfl, rfl⟩

theorem trans {s t u : State} (h : SameChannels s t) (g : SameChannels t u) : SameChannels s u :=
  ⟨fun n => (g.channel n).trans (h.channel n), g.activeBank.trans h.activeBank, g.pins.trans h.pins⟩

theorem of_blocks {s t : State} (hp : t.pru = s.pru) (hb : t.bks = s.bks) (hi : t.pins = s.pins) : SameChannels s t :=
  ⟨fun n => by simp only [State.channel, hp], by simp only [State.activeBank, hb], hi⟩

theorem protParams {s t : State} (h : SameChannels s t) (n : ChanId) : t.protParams n = s.protParams n := by
  simp only [State.protParams, h.activeBank]

theorem faultAsserted {s t : State} (h : SameChannels s t) (n : ChanId) : t.faultAsserted n = s.faultAsserted n := by
  simp only [State.faultAsserted, h.protParams, h.pins]

end SameChannels

theorem SameButLegs.channels {s t : State} (h : SameButLegs s t) : SameChannels s t := .of_blocks h.pru h.bks h.pins

theorem SameButReports.channels {s t : State} (h : SameButReports s t) : SameChannels s t :=
  .of_blocks h.pru h.bks h.pins

/-- A condition on the channels alone is kept by every change of the other blocks. -/
theorem quietKept_of_channels {P : State → Prop} (h : ∀ s t, SameChannels s t → P s → P t) : QuietKept P where
  toLegsKept := .of_same fun s t hs => h s t hs.channels
  monitor l sw m s := h _ _ (SameButLegs.setMonitor l sw m s).channels
  idle s := h _ _ (SameButLegs.idleMonitors s).channels
  record b s _ := h _ _ (report_same b s).channels
  capture l sw d c s := h _ _ (captureEdge_same l sw d c s).channels
  ctu _ s _ := h s _ (.of_blocks rfl rfl rfl)
  ncu _ s := h s _ (.of_blocks rfl rfl rfl)
  pulses _ s := h s _ (.of_blocks rfl rfl rfl)
  countEntries _ s := h s _ (.of_blocks rfl rfl rfl)
  schedule _ s _ := h s _ (.of_blocks rfl rfl rfl)
  cancel s := h s _ ⟨fun _ => rfl, rfl, rfl⟩

theorem quietKept_sameChannels (s : State) : QuietKept (SameChannels s) :=
  quietKept_of_channels fun _ _ h hs => hs.trans h

theorem tripEffect_channels (n : ChanId) (b : TripBasis) (s : State) : SameChannels s (tripEffect n b s) :=
  (quietKept_sameChannels s).monitorKept.tripEffect n b (.refl s)

theorem swapMonitors_channels (old : Bank) (s : State) : SameChannels s (swapMonitors old s) :=
  (quietKept_sameChannels s).monitorKept.swapMonitors old (.refl s)

theorem discardEntries_channels (keep : SchedEntry → Bool) (r : DiscardReason) (s : State) :
    SameChannels s (discardEntries keep r s) := (quietKept_sameChannels s).discard keep r (.refl s)

theorem forceLegs_same (n : ChanId) (v : LegSet) (s : State) : SameButLegs s (forLegsIn v (forceLeg n) s) :=
  .ofForLegsIn v (forceLeg_same n) s

/-! ### What the channels' own events make of them -/

/-- From `s` to `t` channel `n` becomes `x`, the others stay, and no reading of a fault input changes. -/
structure SetsChannel (n : ChanId) (x : Channel) (s t : State) : Prop where
  channel : ∀ k, t.channel k = if k = n then x else s.channel k
  activeBank : t.activeBank = s.activeBank
  pins : t.pins = s.pins

namespace SetsChannel

theorem set (n : ChanId) (x : Channel) (s : State) : SetsChannel n x s (s.setChannel n x) :=
  ⟨fun k => channel_setChannel n k x s, rfl, rfl⟩

theorem before {n : ChanId} {x : Channel} {s t u : State} (h : SameChannels s t) (g : SetsChannel n x t u) :
    SetsChannel n x s u :=
  ⟨fun k => by rw [g.channel, h.channel], g.activeBank.trans h.activeBank, g.pins.trans h.pins⟩

theorem after {n : ChanId} {x : Channel} {s t u : State} (h : SetsChannel n x s t) (g : SameChannels t u) :
    SetsChannel n x s u :=
  ⟨fun k => by rw [g.channel, h.channel], g.activeBank.trans h.activeBank, g.pins.trans h.pins⟩

theorem again {n : ChanId} {x y : Channel} {s t u : State} (h : SetsChannel n x s t) (g : SetsChannel n y t u) :
    SetsChannel n y s u :=
  ⟨fun k => by rw [g.channel, h.channel]; split <;> rfl, g.activeBank.trans h.activeBank, g.pins.trans h.pins⟩

theorem self {n : ChanId} {x : Channel} {s t : State} (h : SetsChannel n x s t) : t.channel n = x := by
  rw [h.channel, if_pos rfl]

theorem faultAsserted {n : ChanId} {x : Channel} {s t : State} (h : SetsChannel n x s t) (k : ChanId) :
    t.faultAsserted k = s.faultAsserted k := by
  simp only [State.faultAsserted, State.protParams, h.activeBank, h.pins]

end SetsChannel

theorem countProt_channels (f : ProtCounters → ProtCounters) (s : State) : SameChannels s (s.countProt f) :=
  ⟨fun _ => rfl, rfl, rfl⟩

/-- A trip leaves the channel ACTIVE (R96, R97). -/
theorem tripChannel_sets (n : ChanId) (f : LegSet) (s : State) : SetsChannel n .active s (tripChannel n f s) := by
  unfold tripChannel countTrip
  exact ((SetsChannel.set n .active _).before
    ((tripEffect_channels n .qualified s).trans (withdrawLegs_same n f _).channels)).after (countProt_channels _ _)

/-- An assertion leaves the channel QUALIFYING, or ACTIVE where QUALIFY is 0 (R93). -/
theorem takeAssertion_sets (n : ChanId) (s : State) :
    SetsChannel n
      (if (s.protParams n).qualify = 0 then .active
        else .qualifying (s.now + (s.protParams n).qualify.setWidth 32) (s.protParams n).fast
          (if (s.protParams n).fast then affectedSet n s else LegSet.empty))
      s (takeAssertion n s) := by
  unfold takeAssertion
  dsimp only
  have held := (((SetsChannel.set n
    (.qualifying (s.now + (s.protParams n).qualify.setWidth 32) (s.protParams n).fast
      (if (s.protParams n).fast then affectedSet n s else LegSet.empty)) s).after
    (countProt_channels (fun k => { k with assertions := satInc k.assertions }) _)).after
    (forceLegs_same n (if (s.protParams n).fast then affectedSet n s else LegSet.empty) _).channels)
  split
  · exact held.again (tripChannel_sets n _ _)
  · exact held

/-- A glitch leaves the channel IDLE (R95, R103). -/
theorem glitch_sets (n : ChanId) (r : GlitchReason) (f : LegSet) (s : State) :
    SetsChannel n .idle s (glitch n r f s) :=
  ((SetsChannel.set n .idle _).before
    ((report_same _ s).channels.trans (withdrawLegs_same n f _).channels)).after (countProt_channels _ _)

/-- A release leaves the channel IDLE (R101, R103). -/
theorem releaseChannel_sets (n : ChanId) (b : ReleaseBasis) (s : State) :
    SetsChannel n .idle s (releaseChannel n b s) := by
  unfold releaseChannel
  exact ((SetsChannel.set n .idle _).before
    ((SameButLegs.ofForLegsIn _ (fun l t => removeCause_same l (.fi n) t) s).channels.trans
      (report_same _ _).channels)).after (countProt_channels _ _)

theorem deassertActive_sets (n : ChanId) (s : State) :
    SetsChannel n
      (match (s.protParams n).latch with
        | .latched => .idle
        | .auto => .holding (s.now + (s.protParams n).hold.setWidth 32)) s (deassertActive n s) := by
  unfold deassertActive
  cases (s.protParams n).latch with
  | latched => exact .set n _ s
  | auto => exact .set n _ s

/-! ### Channels and readings -/

/-- The reading of the input that a channel's state goes with (R91). -/
def Channel.reads : Channel → Bool
  | .idle => false
  | .qualifying _ _ _ => true
  | .active => true
  | .holding _ => false

/-- Channel `n`'s state fits the reading of its input. -/
def ChannelFollows (n : ChanId) (s : State) : Prop := s.faultAsserted n = (s.channel n).reads

theorem channelsFollowInputs_iff (s : State) : ChannelsFollowInputs s ↔ ∀ n, ChannelFollows n s := by
  refine forall_congr' fun n => ?_
  cases h : s.channel n <;> simp [ChannelFollows, Channel.reads, h]

theorem ChannelFollows.of_same {n : ChanId} {s t : State} (hs : SameChannels s t) (h : ChannelFollows n s) :
    ChannelFollows n t := by
  rw [ChannelFollows, hs.faultAsserted, hs.channel]
  exact h

theorem ChannelFollows.of_other {n k : ChanId} {x : Channel} {s t : State} (hs : SetsChannel n x s t) (hk : k ≠ n)
    (h : ChannelFollows k s) : ChannelFollows k t := by
  rw [ChannelFollows, hs.faultAsserted, hs.channel, if_neg hk]
  exact h

theorem SetsChannel.follows {n : ChanId} {x : Channel} {s t : State} (hs : SetsChannel n x s t)
    (h : s.faultAsserted n = x.reads) : ChannelFollows n t := by
  rw [ChannelFollows, hs.faultAsserted, hs.self]
  exact h

theorem channelsFollow_of_same {s t : State} (hs : SameChannels s t) (h : ChannelsFollowInputs s) :
    ChannelsFollowInputs t :=
  (channelsFollowInputs_iff t).2 fun n => ((channelsFollowInputs_iff s).1 h n).of_same hs

theorem channelsFollow_of_sets {n : ChanId} {x : Channel} {s t : State} (hs : SetsChannel n x s t)
    (hn : s.faultAsserted n = x.reads) (h : ∀ k, k ≠ n → ChannelFollows k s) : ChannelsFollowInputs t := by
  refine (channelsFollowInputs_iff t).2 fun k => ?_
  by_cases hk : k = n
  · subst hk; exact hs.follows hn
  · exact (h k hk).of_other hs hk

/-- An assertion taken of an input that reads asserted leaves the channel fitting it. -/
theorem takeAssertion_reads (n : ChanId) (s : State) :
    (if (s.protParams n).qualify = 0 then Channel.active
      else .qualifying (s.now + (s.protParams n).qualify.setWidth 32) (s.protParams n).fast
        (if (s.protParams n).fast then affectedSet n s else LegSet.empty)).reads = true := by
  split <;> rfl

/-- Reading an input afresh in IDLE leaves the channel fitting it, and every other channel as it was (R103, R109). -/
theorem readInput_follows {n : ChanId} {s : State} (hn : s.channel n = .idle) :
    ∃ x, SetsChannel n x s (readInput n s) ∧ s.faultAsserted n = x.reads := by
  unfold readInput
  split
  · next ha => exact ⟨_, takeAssertion_sets n s, ha.trans (takeAssertion_reads n s).symm⟩
  · next ha =>
    refine ⟨.idle, ⟨fun k => ?_, rfl, rfl⟩, by simpa [Channel.reads] using ha⟩
    split
    · next hk => rw [hk, hn]
    · rfl

/-! ### A loop over the channels -/

/-- A loop whose pass for `n` establishes `R n` from `B n`, and leaves the other channels' conditions as they are,
establishes `R` for every channel. -/
theorem forChans_establishes {B R : ChanId → State → Prop} {f : ChanId → State → State}
    (here : ∀ n t, B n t → R n (f n t)) (otherB : ∀ n k t, k ≠ n → B k t → B k (f n t))
    (otherR : ∀ n k t, k ≠ n → R k t → R k (f n t)) {s : State} (h : ∀ n, B n s) (n : ChanId) : R n (forChans f s) := by
  rw [forChans_eq]
  cases n with
  | c0 =>
    exact otherR _ _ _ (by simp) (otherR _ _ _ (by simp) (otherR _ _ _ (by simp) (here _ _ (h _))))
  | c1 =>
    exact otherR _ _ _ (by simp) (otherR _ _ _ (by simp) (here _ _ (otherB _ _ _ (by simp) (h _))))
  | c2 =>
    exact otherR _ _ _ (by simp) (here _ _ (otherB _ _ _ (by simp) (otherB _ _ _ (by simp) (h _))))
  | c3 =>
    exact here _ _ (otherB _ _ _ (by simp) (otherB _ _ _ (by simp) (otherB _ _ _ (by simp) (h _))))

/-- Reading every input afresh with all channels IDLE leaves the channels fitting their inputs (R109). -/
theorem readInputs_follow {s : State} (h : ∀ n, s.channel n = .idle) : ChannelsFollowInputs (forChans readInput s) := by
  have sets (n : ChanId) (t : State) : ∃ x, SetsChannel n x t (readInput n t) := by
    unfold readInput
    split
    · exact ⟨_, takeAssertion_sets n t⟩
    · refine ⟨t.channel n, fun k => ?_, rfl, rfl⟩
      split
      · next hk => rw [hk]
      · rfl
  refine (channelsFollowInputs_iff _).2 (forChans_establishes (B := fun n t => t.channel n = .idle)
    (fun n t ht => ?_) (fun n k t hk ht => ?_) (fun n k t hk ht => ?_) h)
  · obtain ⟨x, hx, hr⟩ := readInput_follows ht
    exact hx.follows hr
  · obtain ⟨x, hx⟩ := sets n t
    rw [hx.channel, if_neg hk, ht]
  · obtain ⟨x, hx⟩ := sets n t
    exact ht.of_other hx hk

/-! ### The channels under a swap (R102 to R104) -/

/-- A changed entry leaves its channel fitting the input under the new entry (R103). -/
theorem swapChangedEntry_sets (n : ChanId) (s : State) :
    ∃ x, SetsChannel n x s (swapChangedEntry n s) ∧ s.faultAsserted n = x.reads := by
  unfold swapChangedEntry
  cases hc : s.channel n with
  | idle => exact readInput_follows hc
  | qualifying d fast f =>
    have cleared := glitch_sets n .entryChanged f s
    obtain ⟨x, hx, hr⟩ := readInput_follows cleared.self
    exact ⟨x, cleared.again hx, (cleared.faultAsserted n).symm.trans hr⟩
  | holding d =>
    have cleared := releaseChannel_sets n .entryChanged s
    obtain ⟨x, hx, hr⟩ := readInput_follows cleared.self
    exact ⟨x, cleared.again hx, (cleared.faultAsserted n).symm.trans hr⟩
  | active =>
    have same := (tripEffect_channels n .entryChanged s).trans
      (countProt_channels (fun k => { k with trips := satInc k.trips }) _)
    dsimp only
    split
    · next ha =>
      refine ⟨.active, ⟨fun k => ?_, same.activeBank, same.pins⟩, ha⟩
      rw [countTrip, same.channel]
      split
      · next hk => rw [hk, hc]
      · rfl
    · next ha => exact ⟨.idle, .set n .idle s, by simpa [Channel.reads] using ha⟩

/-- An unchanged entry leaves its channel with the reading its state goes with (R104). -/
theorem swapUnchangedEntry_sets (old : Bank) (n : ChanId) (s : State) :
    ∃ x, SetsChannel n x s (swapUnchangedEntry old n s) ∧ x.reads = (s.channel n).reads := by
  have stays : SetsChannel n (s.channel n) s s := by
    refine ⟨fun k => ?_, rfl, rfl⟩
    split
    · next hk => rw [hk]
    · rfl
  unfold swapUnchangedEntry
  split
  · next d f hc =>
    split
    · exact ⟨_, stays, rfl⟩
    · exact ⟨_, (SetsChannel.set n _ s).after (forceLegs_same n _ _).channels, by rw [hc]; rfl⟩
  · exact ⟨_, stays, rfl⟩

/-- An entry that a swap leaves unchanged gives its input the reading it had (R102). -/
theorem entryReadsAsserted_of_unchanged {old new : ProtEntry} (h : entryChanged old new = false) (v : Level) :
    entryReadsAsserted new v = entryReadsAsserted old v := by
  simp only [entryChanged, Bool.or_eq_false_iff, decide_eq_false_iff_not, not_not] at h
  obtain ⟨⟨⟨huse, -⟩, -⟩, hlevel⟩ := h
  simp only [entryReadsAsserted, huse, hlevel]

theorem legParams_of_activeBank {s t : State} (h : t.activeBank = s.activeBank) (l : LegId) :
    t.legParams l = s.legParams l := by simp only [State.legParams, h]

/-- A swap brings every channel to the reading of its input under the bank now active. -/
theorem swapBanks_follow (f : CommitForm) {s : State} (h : ChannelsFollowInputs s) :
    ChannelsFollowInputs (swapBanks f s) := by
  have hpins := (swapBanks_outside f s).pins
  -- the state in which the channels are gone through
  obtain ⟨t, ht, hsame⟩ : ∃ t, swapBanks f s = swapChannels s.activeBank t ∧ SameChannels (exchangeBanks s) t :=
    ⟨_, rfl, ((((report_same _ _).channels.trans
      (SameButLegs.ofForLegs (fun l u => swapLeg_same s.activeBank l u) _).channels).trans
      (discardEntries_channels _ _ _))).trans (swapMonitors_channels _ _)⟩
  rw [ht, channelsFollowInputs_iff]
  refine forChans_establishes
    (B := fun n u => entryChanged (s.activeBank.prot.get n) (u.protParams n) = false → ChannelFollows n u)
    (fun n u hu => ?_) (fun n k u hk hu => ?_) (fun n k u hk hu => ?_) fun n hn => ?_
  · split
    · obtain ⟨x, hx, hr⟩ := swapChangedEntry_sets n u
      exact hx.follows hr
    · next hc =>
      obtain ⟨x, hx, hr⟩ := swapUnchangedEntry_sets s.activeBank n u
      exact hx.follows ((hu (by simpa using hc)).trans hr.symm)
  · split
    · obtain ⟨x, hx, -⟩ := swapChangedEntry_sets n u
      intro hc
      rw [State.protParams, hx.activeBank] at hc
      exact (hu hc).of_other hx hk
    · obtain ⟨x, hx, -⟩ := swapUnchangedEntry_sets s.activeBank n u
      intro hc
      rw [State.protParams, hx.activeBank] at hc
      exact (hu hc).of_other hx hk
  · split
    · obtain ⟨x, hx, -⟩ := swapChangedEntry_sets n u
      exact hu.of_other hx hk
    · obtain ⟨x, hx, -⟩ := swapUnchangedEntry_sets s.activeBank n u
      exact hu.of_other hx hk
  · have hold := (channelsFollowInputs_iff s).1 h n
    rw [ChannelFollows, hsame.channel, State.faultAsserted, hsame.pins] at *
    exact (entryReadsAsserted_of_unchanged hn _).trans hold

/-! ### The channels' commands -/

theorem faultAsserted_setFaultPin_other {n k : ChanId} (hk : k ≠ n) (v : Level) (s : State) :
    (s.setFaultPin n v).faultAsserted k = s.faultAsserted k := by
  show entryReadsAsserted (s.protParams k) ((s.pins.fault.set n v).get k) = _
  rw [PerChan.get_set, if_neg hk, State.faultAsserted]

theorem faultAsserted_setFaultPin_same (n : ChanId) (v : Level) (s : State) :
    (s.setFaultPin n v).faultAsserted n = entryReadsAsserted (s.protParams n) v := by
  show entryReadsAsserted (s.protParams n) ((s.pins.fault.set n v).get n) = _
  rw [PerChan.get_set_same]

/-- The level an entry does not assert at reads deasserted. -/
theorem faultAsserted_otherLevel (n : ChanId) (s : State) :
    (s.setFaultPin n (otherLevel (s.protParams n).assertLevel)).faultAsserted n = false := by
  rw [faultAsserted_setFaultPin_same, entryReadsAsserted]
  cases (s.protParams n).assertLevel <;> simp [otherLevel]

theorem faultAssertion_follow {n : ChanId} {s t : State} (ht : execFaultAssertion n s = .next t)
    (h : ChannelsFollowInputs s) : ChannelsFollowInputs t := by
  have hall := (channelsFollowInputs_iff s).1 h
  have hothers (v : Level) (k : ChanId) (hk : k ≠ n) : ChannelFollows k (s.setFaultPin n v) :=
    (faultAsserted_setFaultPin_other hk v s).trans (hall k)
  simp only [execFaultAssertion, Host.Outcome.next.injEq] at ht
  subst ht
  split
  · exact h
  · next hn =>
    split
    · next ha =>
      unfold channelAsserts
      split
      · exact channelsFollow_of_sets (takeAssertion_sets n _) (ha.trans (takeAssertion_reads n _).symm) (hothers _)
      · next hc =>
        have hc : s.channel n = .qualifying _ _ _ := hc
        exact absurd (hall n) (by simp [ChannelFollows, hc, Channel.reads, hn])
      · next hc =>
        have hc : s.channel n = .active := hc
        exact absurd (hall n) (by simp [ChannelFollows, hc, Channel.reads, hn])
      · exact channelsFollow_of_sets (.set n .active _) ha (hothers _)
    · next ha =>
      refine (channelsFollowInputs_iff _).2 fun k => ?_
      by_cases hk : k = n
      · subst hk
        have hidle := hall k
        rw [ChannelFollows, Bool.eq_false_of_not_eq_true hn] at hidle
        exact (Bool.eq_false_of_not_eq_true ha).trans hidle
      · exact hothers _ k hk

theorem faultDeassertion_follow {n : ChanId} {s t : State} (ht : execFaultDeassertion n s = .next t)
    (h : ChannelsFollowInputs s) : ChannelsFollowInputs t := by
  have hall := (channelsFollowInputs_iff s).1 h
  have hothers (v : Level) (k : ChanId) (hk : k ≠ n) : ChannelFollows k (s.setFaultPin n v) :=
    (faultAsserted_setFaultPin_other hk v s).trans (hall k)
  have hlow := faultAsserted_otherLevel n s
  simp only [execFaultDeassertion, Host.Outcome.next.injEq] at ht
  subst ht
  split
  · next hn =>
    unfold channelDeasserts
    split
    · next hc =>
      have hc : s.channel n = .idle := hc
      exact absurd (hall n) (by simp [ChannelFollows, hc, Channel.reads, hn])
    · exact channelsFollow_of_sets (glitch_sets n _ _ _) hlow (hothers _)
    · refine channelsFollow_of_sets (deassertActive_sets n _) ?_ (hothers _)
      split <;> exact hlow
    · next hc =>
      have hc : s.channel n = .holding _ := hc
      exact absurd (hall n) (by simp [ChannelFollows, hc, Channel.reads, hn])
  · next hn =>
    refine (channelsFollowInputs_iff _).2 fun k => ?_
    by_cases hk : k = n
    · subst hk
      have hidle := hall k
      rw [ChannelFollows, Bool.eq_false_of_not_eq_true hn] at hidle
      exact hlow.trans hidle
    · exact hothers _ k hk

theorem trip_follow {n : ChanId} {d : Time} {fast : Bool} {v : LegSet} {s : State}
    (hc : s.channel n = .qualifying d fast v) (h : ChannelsFollowInputs s) : ChannelsFollowInputs (tripChannel n v s) := by
  have hall := (channelsFollowInputs_iff s).1 h
  have hn := hall n
  rw [ChannelFollows, hc] at hn
  exact channelsFollow_of_sets (tripChannel_sets n v s) hn fun k _ => hall k

theorem release_follow {n : ChanId} {d : Time} {s : State} (hc : s.channel n = .holding d)
    (h : ChannelsFollowInputs s) : ChannelsFollowInputs (releaseChannel n .holdEnd s) := by
  have hall := (channelsFollowInputs_iff s).1 h
  have hn := hall n
  rw [ChannelFollows, hc] at hn
  exact channelsFollow_of_sets (releaseChannel_sets n _ s) hn fun k _ => hall k

theorem restart_follow (m : ManageHead) (s : State) : ChannelsFollowInputs (doRestart m s) := by
  refine readInputs_follow fun n => ?_
  show (cancelCommit .restart (respond m 14 .done [] (restartBlocks s))).pru.channels.get n = .idle
  rw [pru_cancelCommit, respond_eq, State.pru_setMgu, pru_report]
  show (Pru.initial.channels).get n = .idle
  simp [Pru.initial]

theorem reset_follow {s : State} (hp : s.pru = Pru.initial) (hb : s.bks = Bks.initial) : ChannelsFollowInputs s := by
  refine (channelsFollowInputs_iff s).2 fun n => ?_
  have huse : s.protParams n = ProtEntry.initial := by
    simp [State.protParams, State.activeBank, hb, Bks.initial, Bank.initial]
  rw [ChannelFollows, State.faultAsserted, huse, State.channel, hp]
  simp [Pru.initial, Channel.reads, entryReadsAsserted, ProtEntry.initial]

theorem decodeEntry_channels (c : Time) (n p : Half) (i : Nat) (e : Entry) (s : State) :
    SameChannels s (decodeEntry c n p i e s) := by
  refine .of_blocks ?_ (bks_decodeEntry c n p i e s) (decodeEntry_outside c n p i e s).pins
  obtain ⟨-, hs⟩ | ⟨r, hs⟩ | ⟨d, -, -, -, hs⟩ := decodeEntry_cases c n p i e s
  · rw [hs]; rfl
  · rw [hs]; exact pru_report _ _
  · have same := congrArg State.pru (setEsu_placed (expand s.activeBank d c n p e) s)
    rw [hs]; exact same

/-- The channels' fit is kept by the events of a step. -/
theorem stepKept_channelsFollow : StepKept ChannelsFollowInputs ChannelsFollowInputs :=
  have K := quietKept_of_channels fun _ _ => channelsFollow_of_same
  { K.monitorKept with
    begins := fun _ h => h
    beginPending := fun _ _ h => h
    beginCiu := fun _ h => h
    beginCtu := fun _ _ _ _ h => h
    beginRecord := K.record
    beginLock := fun _ _ _ h => h
    ciu := fun _ _ _ _ _ h => h
    ctu := fun _ _ _ _ h => h
    rpu := fun _ _ _ _ h => h
    send := fun _ _ _ _ h => h
    mgu := fun _ _ h => h
    countEntries := fun _ _ h => h
    countLegs := fun _ _ h => h
    countProt := fun _ _ h => h
    feedbackPin := fun _ _ _ _ h => h
    discard := fun _ _ _ h => K.discard _ _ h
    decode := fun c n p i e s _ _ h => channelsFollow_of_same (decodeEntry_channels c n p i e s) h
    takeDecoded := fun _ _ h => K.takeDecoded _ h
    scheduleTake := fun _ _ h => K.scheduleTake h
    pulseEnd := fun _ _ h => h
    request := fun l t s _ => K.request l t s
    stop := K.stop
    gapEnd := fun l _ _ s _ _ h => K.judge l _ (channelsFollow_of_same (SameButLegs.setLeg l _ s).channels h)
    settleEnd := fun l _ _ _ s _ _ h => K.judge l _ (channelsFollow_of_same (SameButLegs.setLeg l _ s).channels h)
    minOnEnd := K.minOnEnd
    clearLeg := fun l _ h => K.causes l _ _ h
    firstSeen := fun _ _ h => h
    faultAssertion := fun _ _ _ ht h => faultAssertion_follow ht h
    faultDeassertion := fun _ _ _ ht h => faultDeassertion_follow ht h
    trip := fun _ _ _ _ _ hc h => trip_follow hc h
    release := fun _ _ _ hc h => release_follow hc h
    swap := fun f _ _ h => swapBanks_follow f h
    enum := fun hop s hn h => by
      unfold actEnum
      rcases hn with hn | hn
      · simp only [hn]
        split
        · exact K.toLegsKept.openSafeLegs h
        · exact h
      · simp only [hn]
        split
        · exact h
        · exact h
    arm := fun _ _ h => h
    disarm := fun _ _ h => K.disarmNode h
    resume := fun _ _ h => K.resumeNode h
    restart := fun m s _ _ => restart_follow m s
    shadow := fun b s _ h =>
      channelsFollow_of_same (s := s) ⟨fun _ => rfl, activeBank_setBks_withShadow b s, rfl⟩ h
    commit := fun _ _ _ _ h => h
    cancel := fun _ h => h
    hardReset := fun _ _ => reset_follow rfl rfl
    tick := fun _ _ h => h
    queue := fun _ _ _ h => h }

/-- Settles O12: the channels' fit is kept by the events of a step, and so by every step. -/
theorem stepsKeepChannelsOnInputs : Obligations.StepsKeepChannelsOnInputs :=
  fun _ _ h hstep => stepKept_channelsFollow.step hstep h

end Sys2Proof.Machine
end

section
/-! PROOF. The node state, the halt causes, the address, the lock stage, the pending commit, the schedule and the monitors
fit together (R111, R133, sections 1.2 and 3.1, R64, R74). -/

namespace Sys2Proof.Machine

/-! ### Idle monitors stay idle -/

/-- A monitor that is IDLE among IDLE ones. -/
theorem monitor_of_idle {s : State} (h : s.fbm.monitors = monitorsIdle) (l : LegId) (sw : Switch) :
    s.monitor l sw = .idle := by
  rw [State.monitor, h]
  cases sw <;> simp [monitorsIdle, PerSwitch.get]

/-- No commanded change opens a watch while the monitors are IDLE (R75). -/
theorem putLeg_of_idle {s : State} (h : s.fbm.monitors = monitorsIdle) (l : LegId) (x : Leg) :
    putLeg l x s = s.setLeg l x := by
  have silent (sw : Switch) (b : Bool) (t : State) (ht : t.fbm.monitors = monitorsIdle) : reportChange l sw b t = t := by
    unfold reportChange fbmCommand
    rw [monitor_of_idle ht]
    split <;> rfl
  unfold putLeg
  rw [silent .upper _ (s.setLeg l x) h, silent .lower _ (s.setLeg l x) h]

theorem setMonitor_idle_of_idle {s : State} (h : s.fbm.monitors = monitorsIdle) (l : LegId) (sw : Switch) :
    s.setMonitor l sw .idle = s := by
  have hself : (s.fbm.monitors.get l).set sw .idle = s.fbm.monitors.get l := by
    have hm := monitor_of_idle h l sw
    rw [State.monitor] at hm
    rw [← hm, PerSwitch.set_get_same]
  rw [State.setMonitor, hself, PerLeg.set_get_same]
  rfl

/-- Idle monitors are kept by the writes to legs. -/
theorem legWrites_idle : LegWrites fun s => s.fbm.monitors = monitorsIdle where
  setLeg _ _ _ h := h
  putLeg l x s h := by rw [putLeg_of_idle h]; exact h
  idleOne l sw s h := by rw [setMonitor_idle_of_idle h]; exact h
  feedback _ _ h := h
  countLegs _ _ h := h

/-! ### What the condition looks at -/

/-- The node's consistency looks at the node state, the address, the lock stage, the pending commit, the schedule, the
strobes, and at the monitors where the node state has none. -/
theorem nodeConsistent_of_eq {s t : State} (h : NodeConsistent s) (hncu : t.ncu = s.ncu)
    (haddr : t.ciu.address = s.ciu.address) (hlock : t.ctu.lock = s.ctu.lock)
    (hpend : t.bks.pending = s.bks.pending) (hsched : t.esu.schedule = s.esu.schedule)
    (hpulse : t.esu.pulses = s.esu.pulses)
    (hmon : s.ncu.state.monitors = false → t.fbm.monitors = s.fbm.monitors) : NodeConsistent t := by
  obtain ⟨hcause, hnone, hrange, hfit, hcommit, hidle, hquiet⟩ := h
  refine ⟨by rwa [hncu], by rwa [haddr, hncu], by rwa [haddr], ?_, by rwa [hpend, hncu], ?_, ?_⟩
  · simpa only [LockFits, hncu, hlock] using hfit
  · rw [hncu, hsched, hpulse]; exact hidle
  · rw [hncu]
    exact fun hn => (hmon hn).trans (hquiet hn)

/-- In RUNNING the schedule, the strobes, the monitors and the pending commit are free. -/
theorem nodeConsistent_of_running {s t : State} (h : NodeConsistent s) (hn : s.ncu.state = .running)
    (hncu : t.ncu = s.ncu) (haddr : t.ciu.address = s.ciu.address) (hlock : t.ctu.lock = s.ctu.lock) :
    NodeConsistent t := by
  obtain ⟨hcause, hnone, hrange, hfit, -, -, -⟩ := h
  have htn : t.ncu.state = .running := by rw [hncu, hn]
  refine ⟨by rwa [hncu], by rwa [haddr, hncu], by rwa [haddr], ?_, fun _ => .inr htn, fun hne => absurd htn hne, ?_⟩
  · simpa only [LockFits, hncu, hlock] using hfit
  · intro hm
    rw [htn] at hm
    exact absurd hm (by decide)

theorem nodeConsistent_of_sameButLegs {s t : State} (hs : SameButLegs s t)
    (hidle : s.fbm.monitors = monitorsIdle → t.fbm.monitors = monitorsIdle) (h : NodeConsistent s) : NodeConsistent t := by
  obtain ⟨-, -, -, -, -, -, hquiet⟩ := id h
  exact nodeConsistent_of_eq h hs.ncu (by rw [hs.ciu]) (by rw [hs.ctu]) (by rw [hs.bks]) (by rw [hs.esu])
    (by rw [hs.esu]) fun hn => (hidle (hquiet hn)).trans (hquiet hn).symm

theorem nodeConsistent_of_sameButReports {s t : State} (hs : SameButReports s t) (h : NodeConsistent s) :
    NodeConsistent t :=
  nodeConsistent_of_eq h hs.ncu (by rw [hs.ciu]) (by rw [hs.ctu]) (by rw [hs.bks]) (by rw [hs.esu])
    (by rw [hs.esu]) fun _ => hs.monitors

theorem legWrites_nodeConsistent : LegWrites NodeConsistent where
  setLeg l x s := nodeConsistent_of_sameButLegs (.setLeg l x s) id
  putLeg l x s := nodeConsistent_of_sameButLegs (putLeg_same l x s) (legWrites_idle.putLeg l x s)
  idleOne l sw s := nodeConsistent_of_sameButLegs (.setMonitor l sw .idle s) (legWrites_idle.idleOne l sw s)
  feedback f s := nodeConsistent_of_sameButLegs (.countFeedback f s) id
  countLegs f s := nodeConsistent_of_sameButLegs (.countLegs f s) id

/-! ### Addresses, causes, and the node states outside RUNNING -/

namespace NodeConsistent

variable {s : State}

theorem address_isSome (h : NodeConsistent s) (hn : s.ncu.state ≠ .unaddressed) : s.ciu.address.isNone = false := by
  obtain ⟨-, hnone, -⟩ := h
  rw [hnone]
  exact decide_eq_false hn

theorem address_range (h : NodeConsistent s) {a : Byte} (ha : s.ciu.address = some a) : 1 ≤ a.toNat ∧ a.toNat ≤ 16 := by
  obtain ⟨-, -, hrange, -⟩ := h
  exact hrange a ha

theorem no_commit (h : NodeConsistent s) (hs : s.ncu.state ≠ .syncing) (hr : s.ncu.state ≠ .running) :
    s.bks.pending = none := by
  obtain ⟨-, -, -, -, hcommit, -⟩ := h
  by_contra hp
  exact (hcommit (Option.isSome_iff_ne_none.2 hp)).elim hs hr

theorem schedule_eq_nil (h : NodeConsistent s) (hn : s.ncu.state ≠ .running) : s.esu.schedule = [] := by
  obtain ⟨-, -, -, -, -, hidle, -⟩ := h
  exact (hidle hn).1

theorem pulses_low (h : NodeConsistent s) (hn : s.ncu.state ≠ .running) :
    s.esu.pulses = { s0 := none, s1 := none } := by
  obtain ⟨-, -, -, -, -, hidle, -⟩ := h
  exact (hidle hn).2

theorem monitors_idle (h : NodeConsistent s) (hn : s.ncu.state.monitors = false) : s.fbm.monitors = monitorsIdle := by
  obtain ⟨-, -, -, -, -, -, hquiet⟩ := h
  exact hquiet hn

theorem causes_isEmpty (h : NodeConsistent s) (hn : s.ncu.state ≠ .halted) : s.ncu.causes.isEmpty = true := by
  obtain ⟨hcause, -⟩ := h
  rw [hcause]
  exact decide_eq_true hn

theorem lockFits (h : NodeConsistent s) : LockFits s := by
  obtain ⟨-, -, -, hfit, -⟩ := h
  exact hfit

theorem lock_none (h : NodeConsistent s) (hs : s.ncu.state ≠ .syncing) (hr : s.ncu.state ≠ .running) :
    s.ctu.lock = .none := by
  have hfit := h.lockFits
  unfold LockFits at hfit
  cases hn : s.ncu.state <;> simp_all

end NodeConsistent

theorem ChanSet.isEmpty_set_true (v : ChanSet) (n : ChanId) : ChanSet.isEmpty (v.set n true) = false := by
  by_contra h
  have := (ChanSet.isEmpty_iff _).1 (Bool.eq_true_of_not_eq_false h) n
  simp at this

/-- A halt-cause set with a cause added is not empty. -/
theorem HaltSet.isEmpty_add (h : HaltSet) (x : HaltCause) : (h.add x).isEmpty = false := by
  cases x with
  | linkLoss => simp [HaltSet.add, HaltSet.isEmpty]
  | topology => simp [HaltSet.add, HaltSet.isEmpty]
  | confirm => simp [HaltSet.add, HaltSet.isEmpty]
  | fault n => simp [HaltSet.add, HaltSet.isEmpty, ChanSet.isEmpty_set_true]

/-- A node at rest, without operation: schedule empty, strobes low, nothing pending, no lock. -/
theorem nodeConsistent_at_rest {t : State} (hcause : t.ncu.causes.isEmpty = decide (t.ncu.state ≠ .halted))
    (hnone : t.ciu.address.isNone = decide (t.ncu.state = .unaddressed))
    (hrange : ∀ a, t.ciu.address = some a → 1 ≤ a.toNat ∧ a.toNat ≤ 16) (hn : t.ncu.state ≠ .running)
    (hlock : t.ctu.lock = .none) (hpend : t.bks.pending = none) (hsched : t.esu.schedule = [])
    (hpulse : t.esu.pulses = { s0 := none, s1 := none })
    (hmon : t.ncu.state.monitors = false → t.fbm.monitors = monitorsIdle) : NodeConsistent t := by
  refine ⟨hcause, hnone, hrange, ?_, fun hp => absurd hp (by simp [hpend]), fun _ => ⟨hsched, hpulse⟩, hmon⟩
  cases hs : t.ncu.state <;> simp_all [LockFits]

/-! ### Halts -/

theorem nodeConsistent_haltEnter (x : HaltCause) {s : State} (hn : s.ncu.state ≠ .unaddressed) (h : NodeConsistent s) :
    NodeConsistent (haltEnter x s) := by
  refine nodeConsistent_at_rest ?_ ?_ ?_ ?_ ?_ ?_ ?_ ?_ ?_
  · simp [HaltSet.isEmpty_add]
  · simpa using h.address_isSome hn
  · simpa using fun a ha => h.address_range ha
  · simp
  · simp
  · simp
  · simp
  · simp
  · intro hm
    rw [ncu_haltEnter] at hm
    exact Bool.noConfusion (show true = false from hm)

theorem nodeConsistent_haltFurther (x : HaltCause) {s : State} (hn : s.ncu.state = .halted) (h : NodeConsistent s) :
    NodeConsistent (haltFurther x s) := by
  have hs : s.ncu.state ≠ .syncing := by simp [hn]
  have hr : s.ncu.state ≠ .running := by simp [hn]
  refine nodeConsistent_at_rest ?_ ?_ ?_ ?_ ?_ ?_ ?_ ?_ ?_
  · simp [HaltSet.isEmpty_add]
  · simpa using h.address_isSome (by simp [hn])
  · simpa using fun a ha => h.address_range ha
  · simp
  · simpa using h.lock_none hs hr
  · simpa using h.no_commit hs hr
  · simpa using h.schedule_eq_nil hr
  · simpa using h.pulses_low hr
  · intro hm
    rw [ncu_haltFurther] at hm
    exact Bool.noConfusion (show true = false from hm)

/-- The node's consistency is kept by the events of the monitors and of the fault channels. -/
theorem protKept_nodeConsistent : ProtKept NodeConsistent :=
  have K := legWrites_nodeConsistent.legsKept
  { judge := K.judge
    cause := K.cause
    monitor := fun l sw m s hm h => by
      refine nodeConsistent_of_eq h rfl rfl rfl rfl rfl rfl fun hn => ?_
      have hidle := h.monitors_idle hn
      have hm : m = .idle := by simpa [hn, monitor_of_idle hidle] using hm
      rw [hm, setMonitor_idle_of_idle hidle]
    feedback := K.feedback
    record := fun b s _ => nodeConsistent_of_sameButReports (report_same b s)
    capture := fun l sw d c s => nodeConsistent_of_sameButReports (captureEdge_same l sw d c s)
    enterHalt := fun x _ hn _ => nodeConsistent_haltEnter x hn
    furtherHalt := fun x _ hn => nodeConsistent_haltFurther x hn
    force := K.force
    withdraw := K.withdraw
    causes := K.causes
    pru := fun _ _ h => h }

/-! ### The schedule -/

theorem nodeConsistent_setSchedule {s : State} {es : List SchedEntry} (hes : es.Sublist s.esu.schedule)
    (h : NodeConsistent s) : NodeConsistent (s.setSchedule es) := by
  by_cases hn : s.ncu.state = .running
  · exact nodeConsistent_of_running h hn rfl rfl rfl
  · have hnil := h.schedule_eq_nil hn
    rw [hnil, List.sublist_nil] at hes
    exact nodeConsistent_of_eq h rfl rfl rfl rfl (hes.trans hnil.symm) rfl fun _ => rfl

theorem nodeConsistent_discardEntries (keep : SchedEntry → Bool) (r : DiscardReason) {s : State}
    (h : NodeConsistent s) : NodeConsistent (discardEntries keep r s) := by
  unfold discardEntries
  split
  · exact h
  · exact nodeConsistent_of_sameButReports (report_same _ _)
      (nodeConsistent_setSchedule (s := s) List.filter_sublist h)

/-- Entries are taken in RUNNING, which they do not leave. -/
theorem nodeConsistent_takeEntries (es : List SchedEntry) {s : State} (hn : s.ncu.state = .running)
    (h : NodeConsistent s) : NodeConsistent (takeEntries es s) := by
  unfold takeEntries
  induction es generalizing s with
  | nil => exact h
  | cons e es ih =>
    have taken : (takeWork e.work s).ncu = s.ncu ∧ NodeConsistent (takeWork e.work s) := by
      unfold takeWork
      split
      · exact ⟨(requestLeg_same _ _ s).ncu, legWrites_nodeConsistent.requestLeg _ _ h⟩
      · unfold takeStrobe
        dsimp only
        split
        · exact ⟨rfl, nodeConsistent_of_running h hn rfl rfl rfl⟩
        · exact ⟨rfl, nodeConsistent_of_running h hn rfl rfl rfl⟩
    exact ih (by rw [taken.1, hn]) taken.2

/-- Entries taken off the schedule: there are none outside RUNNING. -/
theorem nodeConsistent_take {s : State} {es rest : List SchedEntry} (hes : es.Sublist s.esu.schedule)
    (hrest : rest.Sublist s.esu.schedule) (h : NodeConsistent s) : NodeConsistent (takeEntries es (s.setSchedule rest)) := by
  by_cases hn : s.ncu.state = .running
  · exact nodeConsistent_takeEntries es (s := s.setSchedule rest) hn (nodeConsistent_setSchedule hrest h)
  · rw [h.schedule_eq_nil hn, List.sublist_nil] at hes
    subst hes
    exact nodeConsistent_setSchedule hrest h

theorem splitDue_sublist (es : List SchedEntry) :
    (splitDue es).1.Sublist es ∧ (splitDue es).2.Sublist es := by
  cases es with
  | nil => exact ⟨.refl _, .refl _⟩
  | cons e rest =>
    exact ⟨(List.takeWhile_sublist _).cons_cons e,
      ((List.dropWhile_suffix _).sublist).trans (List.sublist_cons_self e rest)⟩

theorem ncu_decodeEntry (c : Time) (n p : Half) (i : Nat) (e : Entry) (s : State) :
    (decodeEntry c n p i e s).ncu = s.ncu := by
  obtain ⟨-, hs⟩ | ⟨r, hs⟩ | ⟨d, -, -, -, hs⟩ := decodeEntry_cases c n p i e s
  · rw [hs]; rfl
  · rw [hs]; exact ncu_report _ _
  · have same := congrArg State.ncu (setEsu_placed (expand s.activeBank d c n p e) s)
    rw [hs]; exact same

theorem ctu_decodeEntry (c : Time) (n p : Half) (i : Nat) (e : Entry) (s : State) :
    (decodeEntry c n p i e s).ctu = s.ctu := by
  obtain ⟨-, hs⟩ | ⟨r, hs⟩ | ⟨d, -, -, -, hs⟩ := decodeEntry_cases c n p i e s
  · rw [hs]; rfl
  · rw [hs]; exact ctu_report _ _
  · have same := congrArg State.ctu (setEsu_placed (expand s.activeBank d c n p e) s)
    rw [hs]; exact same

/-! ### Node state changes -/

theorem nodeConsistent_swapBanks (f : CommitForm) {s : State} (h : NodeConsistent s) : NodeConsistent (swapBanks f s) := by
  have exchanged : NodeConsistent (exchangeBanks s) := by
    obtain ⟨hcause, hnone, hrange, hfit, -, hidle, hquiet⟩ := h
    exact ⟨hcause, hnone, hrange, hfit, fun hp => absurd hp (by simp [exchangeBanks]), hidle, hquiet⟩
  have legs : NodeConsistent (forLegs (swapLeg s.activeBank)
      (report (.commitDone f (exchangeBanks s).bks.active (exchangeBanks s).ctu.cycle) (exchangeBanks s))) :=
    legWrites_nodeConsistent.swapLegs _ (nodeConsistent_of_sameButReports (report_same _ _) exchanged)
  exact protKept_nodeConsistent.swapChannels _
    (protKept_nodeConsistent.swapMonitors _ (nodeConsistent_discardEntries _ _ legs))

theorem hop_succ_range {h : Byte} (hlt : h.toNat < 16) : 1 ≤ (h + 1).toNat ∧ (h + 1).toNat ≤ 16 := by
  have hone : (1 : Byte).toNat = 1 := rfl
  rw [BitVec.toNat_add, hone]
  omega

theorem nodeConsistent_actEnum (hop : Byte) {s : State} (hn : s.ncu.state = .unaddressed ∨ s.ncu.state = .standby)
    (h : NodeConsistent s) : NodeConsistent (actEnum hop s) := by
  have hs : s.ncu.state ≠ .syncing := by rcases hn with hn | hn <;> simp [hn]
  have hr : s.ncu.state ≠ .running := by rcases hn with hn | hn <;> simp [hn]
  have hh : s.ncu.state ≠ .halted := by rcases hn with hn | hn <;> simp [hn]
  have hm : s.ncu.state.monitors = false := by rcases hn with hn | hn <;> rw [hn] <;> rfl
  -- the node with the address and the node state that the HOP gives
  have addressed (a : Byte) (ha : 1 ≤ a.toNat ∧ a.toNat ≤ 16) :
      NodeConsistent ((s.setAddress (some a)).setNcu { s.ncu with state := .standby }) :=
    nodeConsistent_at_rest (h.causes_isEmpty hh) rfl (fun b hb => by cases hb; exact ha) (by simp)
      (h.lock_none hs hr) (h.no_commit hs hr) (h.schedule_eq_nil hr) (h.pulses_low hr) fun _ => h.monitors_idle hm
  have unaddressed : NodeConsistent ((s.setAddress none).setNcu { s.ncu with state := .unaddressed }) :=
    nodeConsistent_at_rest (h.causes_isEmpty hh) rfl (fun b hb => by cases hb) (by simp)
      (h.lock_none hs hr) (h.no_commit hs hr) (h.schedule_eq_nil hr) (h.pulses_low hr) fun _ => h.monitors_idle hm
  unfold actEnum hopAddress
  rcases hn with hn | hn
  · simp only [hn]
    split
    · next a ha =>
      split at ha
      · next hlt =>
        cases ha
        exact legWrites_nodeConsistent.legsKept.openSafeLegs (addressed _ (hop_succ_range hlt))
      · cases ha
    · exact nodeConsistent_of_eq unaddressed (by rw [State.ncu_setNcu, ← hn]; rfl) rfl rfl rfl rfl rfl fun _ => rfl
  · simp only [hn]
    split
    · next a ha =>
      split at ha
      · next hlt =>
        cases ha
        exact nodeConsistent_of_eq (addressed _ (hop_succ_range hlt)) (by rw [State.ncu_setNcu, ← hn]; rfl) rfl rfl rfl rfl
          rfl fun _ => rfl
      · cases ha
    · exact unaddressed

/-- DISARM up to its legs (R117): the monitors IDLE, the node in STANDBY, the lock gone, the legs stopped. -/
def disarmed (s : State) : State := disarmLegs (leaveOperation (s.idleMonitors.setNode .standby HaltSet.empty))

theorem disarmNode_eq (s : State) :
    disarmNode s = cancelCommit .disarm (strobesLow (discardEntries (fun _ => false) .disarm (disarmed s))) := rfl

theorem disarmed_same (s : State) :
    SameButLegs (leaveOperation (s.idleMonitors.setNode .standby HaltSet.empty)) (disarmed s) := disarmLegs_same _

theorem disarmed_monitors (s : State) : (disarmed s).fbm.monitors = monitorsIdle :=
  legWrites_idle.legsKept.disarmLegs (s := leaveOperation (s.idleMonitors.setNode .standby HaltSet.empty)) rfl

theorem nodeConsistent_disarmNode {s : State} (hn : Operating s) (h : NodeConsistent s) :
    NodeConsistent (disarmNode s) := by
  have hncu : (disarmed s).ncu = { state := .standby, causes := HaltSet.empty } := (disarmed_same s).ncu
  have hciu : (disarmed s).ciu = s.ciu := (disarmed_same s).ciu
  have hlock : (disarmed s).ctu.lock = .none := congrArg Ctu.lock (disarmed_same s).ctu
  have hu : s.ncu.state ≠ .unaddressed := by rcases hn with hn | hn <;> simp [hn]
  rw [disarmNode_eq]
  refine nodeConsistent_at_rest ?_ ?_ ?_ ?_ ?_ ?_ ?_ ?_ ?_
  · simp [strobesLow, hncu]; decide
  · simpa [strobesLow, hncu, hciu] using h.address_isSome hu
  · simpa [strobesLow, hciu] using fun a ha => h.address_range (a := a) ha
  · simp [strobesLow, hncu]
  · simp [strobesLow, hlock]
  · simp
  · simp [strobesLow]
  · simp [strobesLow]
  · intro _
    simpa [strobesLow] using disarmed_monitors s

theorem nodeConsistent_resumeNode {s : State} (hn : s.ncu.state = .halted) (h : NodeConsistent s) :
    NodeConsistent (resumeNode s) := by
  have hs : s.ncu.state ≠ .syncing := by simp [hn]
  have hr : s.ncu.state ≠ .running := by simp [hn]
  have standby : NodeConsistent ((s.idleMonitors).setNode .standby HaltSet.empty) :=
    nodeConsistent_at_rest rfl (h.address_isSome (by simp [hn])) (fun a ha => h.address_range ha) (by simp [State.setNode])
      (h.lock_none hs hr) (h.no_commit hs hr) (h.schedule_eq_nil hr) (h.pulses_low hr) fun _ => rfl
  have opened := legWrites_nodeConsistent.legsKept.openSafeLegs standby
  unfold resumeNode
  exact forLegs_keeps (fun l t ht => protKept_nodeConsistent.removeCause l _ ht) opened

/-- The blocks of a RESTART up to the legs. -/
def restartBase (s : State) : State := restartCtu (s.idleMonitors.setNode .standby HaltSet.empty)

theorem ncu_restartBlocks (s : State) : (restartBlocks s).ncu = { state := .standby, causes := HaltSet.empty } := by
  have legs : (restartLegs (restartBase s)).ncu = (restartBase s).ncu := (restartLegs_same _).ncu
  simp only [restartBlocks, State.countLink, State.ncu_setCiu, State.ncu_setMgu, State.ncu_setRpu, State.ncu_setPru,
    State.ncu_setFbm, State.ncu_setEsu]
  exact legs

theorem ctu_restartBlocks (s : State) : (restartBlocks s).ctu = (restartBase s).ctu := by
  have legs : (restartLegs (restartBase s)).ctu = (restartBase s).ctu := (restartLegs_same _).ctu
  simp only [restartBlocks, State.countLink, State.ctu_setCiu, State.ctu_setMgu, State.ctu_setRpu, State.ctu_setPru,
    State.ctu_setFbm, State.ctu_setEsu]
  exact legs

theorem address_restartBlocks (s : State) : (restartBlocks s).ciu.address = s.ciu.address := by
  have legs : (restartLegs (restartBase s)).ciu = s.ciu := (restartLegs_same _).ciu
  simp only [restartBlocks, State.countLink, State.ciu_setCiu, State.ciu_setMgu, State.ciu_setRpu, State.ciu_setPru,
    State.ciu_setFbm, State.ciu_setEsu]
  exact congrArg Ciu.address legs

theorem nodeConsistent_doRestart (m : ManageHead) {s : State} (hn : s.ncu.state ≠ .unaddressed) (h : NodeConsistent s) :
    NodeConsistent (doRestart m s) := by
  have hncu := ncu_restartBlocks s
  have hctu : (restartBlocks s).ctu.lock = .none := by rw [ctu_restartBlocks]; rfl
  have haddr := address_restartBlocks s
  have cancelled : NodeConsistent (cancelCommit .restart (respond m 14 .done [] (restartBlocks s))) := by
    refine nodeConsistent_at_rest ?_ ?_ ?_ ?_ ?_ ?_ ?_ ?_ ?_
    · simp [respond_eq, hncu]; decide
    · simpa [respond_eq, hncu, haddr] using h.address_isSome hn
    · simpa [respond_eq, haddr] using fun a ha => h.address_range ha
    · simp [respond_eq, hncu]
    · simp [respond_eq, hctu]
    · simp
    · simp [respond_eq]; rfl
    · simp [respond_eq]; rfl
    · intro _
      simp [respond_eq]; rfl
  exact forChans_keeps (fun n t ht => protKept_nodeConsistent.readInput n ht) cancelled

theorem nodeConsistent_initial {s : State} (hncu : s.ncu = Ncu.initial) (hciu : s.ciu = Ciu.initial)
    (hctu : s.ctu = Ctu.initial) (hbks : s.bks = Bks.initial) (hesu : s.esu = Esu.initial) (hfbm : s.fbm = Fbm.initial) :
    NodeConsistent s := by
  refine nodeConsistent_at_rest ?_ ?_ ?_ ?_ ?_ ?_ ?_ ?_ ?_
  · rw [hncu]; rfl
  · rw [hciu, hncu]; rfl
  · rw [hciu]; exact fun a ha => absurd ha (by simp [Ciu.initial])
  · rw [hncu]; decide
  · rw [hctu]; rfl
  · rw [hbks]; rfl
  · rw [hesu]; rfl
  · rw [hesu]; rfl
  · rw [hfbm]; exact fun _ => rfl

/-- The node's consistency is kept by the events of a step. -/
theorem stepKept_nodeConsistent : StepKept NodeConsistent NodeConsistent :=
  have K := protKept_nodeConsistent
  have L := legWrites_nodeConsistent
  { K.toMonitorKept with
    begins := fun _ h => h
    beginPending := fun _ _ h => h
    beginCiu := fun _ h => h
    beginCtu := fun x s _ hl h => nodeConsistent_of_eq (t := s.setCtu x) h rfl rfl hl rfl rfl rfl fun _ => rfl
    beginRecord := K.record
    beginLock := fun s hn _ h => by
      refine ⟨h.causes_isEmpty (by simp [hn]), h.address_isSome (by simp [hn]), fun a => h.address_range, rfl, fun _ => .inr rfl,
        fun hne => absurd rfl hne, fun hm => Bool.noConfusion (show true = false from hm)⟩
    ciu := fun x s ha _ _ h => nodeConsistent_of_eq (t := s.setCiu x) h rfl ha rfl rfl rfl rfl fun _ => rfl
    ctu := fun x s _ hl h => nodeConsistent_of_eq (t := s.setCtu x) h rfl rfl hl rfl rfl rfl fun _ => rfl
    rpu := fun _ _ _ _ h => h
    send := fun r rest s _ => nodeConsistent_of_sameButReports (sendRecord_same r rest s)
    mgu := fun _ _ h => h
    countEntries := fun _ _ h => h
    countLegs := L.countLegs
    countProt := fun _ _ h => h
    feedbackPin := fun _ _ _ _ h => h
    discard := fun _ _ _ h => nodeConsistent_discardEntries _ _ h
    decode := fun c n p i e s hn _ h => nodeConsistent_of_running h hn (ncu_decodeEntry c n p i e s)
      (by rw [(decodeEntry_outside c n p i e s).ciu]) (by rw [ctu_decodeEntry])
    takeDecoded := fun _ _ h => nodeConsistent_take List.filter_sublist List.filter_sublist h
    scheduleTake := fun s _ h => nodeConsistent_take (splitDue_sublist s.esu.schedule).1 (splitDue_sublist s.esu.schedule).2 h
    pulseEnd := fun x s h => by
      by_cases hn : s.ncu.state = .running
      · exact nodeConsistent_of_running h hn rfl rfl rfl
      · have hlow := h.pulses_low hn
        refine nodeConsistent_of_eq h rfl rfl rfl rfl rfl ?_ fun _ => rfl
        rw [State.esu_setEsu, hlow]
        cases x <;> rfl
    request := fun l t _ _ => L.requestLeg l t
    stop := fun l _ => L.stopLeg l
    gapEnd := fun l _ _ s _ _ h => L.judgeLeg l (L.setLeg l _ s h)
    settleEnd := fun l _ _ _ s _ _ h => L.judgeLeg l (L.setLeg l _ s h)
    minOnEnd := fun l _ _ _ _ _ s _ => L.setLeg l _ s
    clearLeg := fun l _ => L.setCauses l _
    firstSeen := fun s hn h => by
      obtain ⟨hcause, hnone, hrange, -, hcommit, hidle, hquiet⟩ := h
      exact ⟨hcause, hnone, hrange, by simp [LockFits, hn], hcommit, hidle, hquiet⟩
    faultAssertion := fun n _ _ ht h => K.faultAssertion (fun _ _ h => h) n ht h
    faultDeassertion := fun n _ _ ht h => K.faultDeassertion (fun _ _ h => h) n ht h
    trip := fun n _ _ v _ _ h => K.tripChannel n v h
    release := fun n _ _ _ h => K.releaseChannel n _ h
    swap := fun f _ _ h => nodeConsistent_swapBanks f h
    enum := fun hop _ hn h => nodeConsistent_actEnum hop hn h
    arm := fun s hn h => by
      have hs : s.ncu.state ≠ .syncing := by simp [hn]
      have hr : s.ncu.state ≠ .running := by simp [hn]
      exact ⟨rfl, h.address_isSome (by simp [hn]), fun a => h.address_range, LockStage.noConfusion,
        fun hp => absurd (h.no_commit hs hr) (Option.isSome_iff_ne_none.1 hp),
        fun _ => ⟨h.schedule_eq_nil hr, h.pulses_low hr⟩,
        fun hm => Bool.noConfusion (show true = false from hm)⟩
    disarm := fun _ hn h => nodeConsistent_disarmNode hn h
    resume := fun _ hn h => nodeConsistent_resumeNode hn h
    restart := fun m _ hn h => nodeConsistent_doRestart m hn h
    shadow := fun b s hp h => nodeConsistent_of_eq (t := s.setBks (s.bks.withShadow b)) h rfl rfl rfl
      (pending_withShadow b s.bks) rfl rfl fun _ => rfl
    commit := fun g s hn _ h => by
      obtain ⟨hcause, hnone, hrange, hfit, -, hidle, hquiet⟩ := h
      exact ⟨hcause, hnone, hrange, hfit, fun _ => hn, hidle, hquiet⟩
    cancel := fun s h => by
      obtain ⟨hcause, hnone, hrange, hfit, -, hidle, hquiet⟩ := h
      exact ⟨hcause, hnone, hrange, hfit, fun hp => absurd hp (by simp), hidle, hquiet⟩
    hardReset := fun _ _ => nodeConsistent_initial rfl rfl rfl rfl rfl rfl
    tick := fun _ _ h => h
    queue := fun _ _ _ h => h }

/-- Settles O8: the node's consistency is kept by the events of a step, and so by every step. -/
theorem stepsKeepNodeConsistent : Obligations.StepsKeepNodeConsistent :=
  fun _ _ h hstep => stepKept_nodeConsistent.step hstep h

end Sys2Proof.Machine
end

section
/-! PROOF. What an operation of the Leg Engine on one leg leaves unchanged of the other legs, the other monitors and the
counters that are not its own (`LegFrame`), and what it makes of the leg's monitors and of "watches replaced". -/

namespace Sys2Proof.Machine

/-! ### The frame of one leg -/

namespace LegFrame

variable {l : LegId} {s t u : State}

theorem refl (l : LegId) (s : State) : LegFrame l s s := ⟨.refl s, fun _ _ => rfl, fun _ _ _ => rfl, rfl, rfl, rfl⟩

theorem trans (h : LegFrame l s t) (g : LegFrame l t u) : LegFrame l s u :=
  ⟨h.blocks.trans g.blocks, fun k hk => (g.legs k hk).trans (h.legs k hk),
    fun k sw hk => (g.monitors k sw hk).trans (h.monitors k sw hk), g.confirmFailures.trans h.confirmFailures,
    g.disagreements.trans h.disagreements, g.edgeOverruns.trans h.edgeOverruns⟩

theorem setLeg (l : LegId) (x : Leg) (s : State) : LegFrame l s (s.setLeg l x) :=
  ⟨.setLeg l x s, fun k hk => by rw [leg_setLeg, if_neg hk], fun _ _ _ => rfl, rfl, rfl, rfl⟩

theorem setMonitor (l : LegId) (sw : Switch) (m : Monitor) (s : State) : LegFrame l s (s.setMonitor l sw m) :=
  ⟨.setMonitor l sw m s, fun _ _ => rfl, fun k sx hk => by rw [monitor_setMonitor, if_neg (fun h => hk h.1)], rfl, rfl,
    rfl⟩

theorem countLegs (l : LegId) (f : LegCounters → LegCounters) (s : State) : LegFrame l s (s.countLegs f) :=
  ⟨.countLegs f s, fun _ _ => rfl, fun _ _ _ => rfl, rfl, rfl, rfl⟩

theorem countWatches (l : LegId) (s : State) :
    LegFrame l s (s.countFeedback fun k => { k with watchesReplaced := satInc k.watchesReplaced }) :=
  ⟨.countFeedback _ s, fun _ _ => rfl, fun _ _ _ => rfl, rfl, rfl, rfl⟩

theorem fbmCommand (l : LegId) (sw : Switch) (v : Bool) (s : State) : LegFrame l s (fbmCommand l sw v s) := by
  unfold Machine.fbmCommand
  cases hm : s.monitor l sw with
  | idle => exact refl l s
  | quiet => dsimp only; split <;> exact setMonitor l sw _ s
  | watching e c d =>
    dsimp only
    split
    · exact setMonitor l sw _ s
    · exact (countWatches l s).trans (setMonitor l sw _ _)
  | filtering d => dsimp only; split <;> exact setMonitor l sw _ s
  | failed => dsimp only; split <;> exact setMonitor l sw _ s

theorem reportChange (l : LegId) (sw : Switch) (b : Bool) (s : State) : LegFrame l s (reportChange l sw b s) := by
  unfold Machine.reportChange
  split
  · exact refl l s
  · exact fbmCommand l sw _ s

theorem putLeg (l : LegId) (x : Leg) (s : State) : LegFrame l s (putLeg l x s) :=
  ((setLeg l x s).trans (reportChange l .upper _ _)).trans (reportChange l .lower _ _)

/-- Every operation on leg `l` keeps to its frame. -/
theorem writes (l : LegId) (s : State) : LegWritesAt l (LegFrame l s) where
  setLeg x _ h := h.trans (setLeg l x _)
  putLeg x _ h := h.trans (putLeg l x _)
  idleOne sw _ h := h.trans (setMonitor l sw _ _)
  countLegs f _ h := h.trans (countLegs l f _)

theorem judgeLeg (l : LegId) (s : State) : LegFrame l s (judgeLeg l s) := (writes l s).judgeLeg (refl l s)

theorem requestLeg (l : LegId) (t : Target) (s : State) : LegFrame l s (requestLeg l t s) :=
  (writes l s).requestLeg t (refl l s)

theorem suppressClamp (l : LegId) (s : State) : LegFrame l s (suppressClamp l s) :=
  (writes l s).suppressClamp (refl l s)

theorem addCause (l : LegId) (x : LegCause) (b : Bool) (s : State) : LegFrame l s (addCause l x b s) :=
  (writes l s).addCause x b (refl l s)

theorem setCauses (l : LegId) (cs : Causes) (s : State) : LegFrame l s (setCauses l cs s) :=
  (writes l s).setCauses cs (refl l s)

theorem removeCause (l : LegId) (x : LegCause) (s : State) : LegFrame l s (removeCause l x s) := by
  unfold Machine.removeCause
  split
  · exact setCauses l _ s
  · exact refl l s

theorem forceLeg (n : ChanId) (l : LegId) (s : State) : LegFrame l s (forceLeg n l s) :=
  (writes l s).forceLeg n (refl l s)

theorem withdrawLeg (n : ChanId) (l : LegId) (s : State) : LegFrame l s (withdrawLeg n l s) :=
  (writes l s).withdrawLeg n (refl l s)

theorem stopLeg (l : LegId) (s : State) : LegFrame l s (stopLeg l s) := (writes l s).stopLeg (refl l s)

theorem swapLeg (old : Bank) (l : LegId) (s : State) : LegFrame l s (swapLeg old l s) :=
  (writes l s).swapLeg old (refl l s)

end LegFrame

/-! ### The record of the leg after a reported replacement -/

/-- As far as leg records go, a reported replacement is a plain one. -/
theorem leg_putLeg (l k : LegId) (x : Leg) (s : State) : (putLeg l x s).leg k = if k = l then x else s.leg k := by
  rw [State.leg, lge_putLeg]
  exact leg_setLeg l k x s

@[simp] theorem leg_putLeg_same (l : LegId) (x : Leg) (s : State) : (putLeg l x s).leg l = x := by
  rw [leg_putLeg, if_pos rfl]

@[simp] theorem commanded_putLeg (l : LegId) (x : Leg) (s : State) (sw : Switch) :
    (putLeg l x s).commanded l sw = x.cond.drives sw := by
  rw [State.commanded, leg_putLeg_same]

@[simp] theorem commanded_setLeg (l : LegId) (x : Leg) (s : State) (sw : Switch) :
    (s.setLeg l x).commanded l sw = x.cond.drives sw := by
  rw [State.commanded, leg_setLeg_same]

/-! ### The record of a leg that enters SAFE (R42, R44) -/

/-- The conducting switch of a leg. -/
def LegCond.side : LegCond → Option Switch
  | .on side _ _ _ _ => some side
  | _ => none

/-- The record as far as LAST-OFF goes once a conducting switch has been turned off. -/
def Leg.stopped (now : Time) (x : Leg) : Leg := if x.cond.side = none then x else Leg.offAt now .off

section
variable (p : LegRecord) (now : Time) (cs : Causes) (x : Leg)

/-- Without a clamp, or with it suppressed, the leg enters phase OPEN. -/
theorem safeEntry_opened {k : Option Switch} {b : Bool} (h : b = true ∨ k = none) :
    safeEntry p now cs k b x = { x.stopped now with cond := .safe cs .opened k } := by
  have hclamp : (if b then none else k) = none := by
    rcases h with rfl | rfl
    · rfl
    · simp
  obtain ⟨c, off, rested⟩ := x
  cases c <;> simp only [safeEntry, hclamp] <;> rfl

/-- A conducting clamp switch stays on. -/
theorem safeEntry_clamped {sw : Switch} (h : x.cond.side = some sw) :
    safeEntry p now cs (some sw) false x = { x with cond := .safe cs .clamped (some sw) } := by
  obtain ⟨c, off, rested⟩ := x
  cases c with
  | on side a m e d =>
    cases h
    exact if_pos rfl
  | off => cases h
  | gap a b c => cases h
  | heldOff a => cases h
  | safe a b c => cases h

/-- Any other leg settles toward its clamp switch. -/
theorem safeEntry_settling {sw : Switch} (h : x.cond.side ≠ some sw) :
    safeEntry p now cs (some sw) false x =
      { x.stopped now with
        cond := .safe cs (.settling ((x.stopped now).lastOff + deadOf p sw)
          (sumReached now (x.stopped now) (deadOf p sw))) (some sw) } := by
  obtain ⟨c, off, rested⟩ := x
  cases c with
  | on side a m e d => exact if_neg h
  | off => rfl
  | gap a b c => rfl
  | heldOff a => rfl
  | safe a b c => rfl

end

/-! ### A loop over the legs -/

section
variable {f : LegId → State → State} {s : State}

/-- A loop whose pass for `l` establishes `R l` from `B l`, and keeps what holds of the other legs, establishes `R` for
every leg. -/
theorem forLegs_establishes {B R : LegId → State → Prop} (here : ∀ l t, B l t → R l (f l t))
    (otherB : ∀ l k t, k ≠ l → B k t → B k (f l t)) (otherR : ∀ l k t, k ≠ l → R k t → R k (f l t))
    (h : ∀ l, B l s) (l : LegId) : R l (forLegs f s) := by
  rw [forLegs_eq]
  cases l with
  | l0 =>
    exact otherR _ _ _ (by simp) (otherR _ _ _ (by simp) (otherR _ _ _ (by simp) (otherR _ _ _ (by simp)
      (otherR _ _ _ (by simp) (here _ _ (h _))))))
  | l1 =>
    exact otherR _ _ _ (by simp) (otherR _ _ _ (by simp) (otherR _ _ _ (by simp) (otherR _ _ _ (by simp)
      (here _ _ (otherB _ _ _ (by simp) (h _))))))
  | l2 =>
    exact otherR _ _ _ (by simp) (otherR _ _ _ (by simp) (otherR _ _ _ (by simp) (here _ _
      (otherB _ _ _ (by simp) (otherB _ _ _ (by simp) (h _))))))
  | l3 =>
    exact otherR _ _ _ (by simp) (otherR _ _ _ (by simp) (here _ _ (otherB _ _ _ (by simp)
      (otherB _ _ _ (by simp) (otherB _ _ _ (by simp) (h _))))))
  | l4 =>
    exact otherR _ _ _ (by simp) (here _ _ (otherB _ _ _ (by simp) (otherB _ _ _ (by simp)
      (otherB _ _ _ (by simp) (otherB _ _ _ (by simp) (h _))))))
  | l5 =>
    exact here _ _ (otherB _ _ _ (by simp) (otherB _ _ _ (by simp) (otherB _ _ _ (by simp)
      (otherB _ _ _ (by simp) (otherB _ _ _ (by simp) (h _))))))

/-- A loop of passes that keep to their leg's frame: what the pass for `l` makes of leg `l`'s record, it makes of the
record that leg had before the loop, in a state that differs from the one before by legs only. -/
theorem forLegs_leg (frame : ∀ l t, LegFrame l t (f l t)) (l : LegId) :
    ∃ t, SameButLegs s t ∧ t.leg l = s.leg l ∧ (∀ sw, t.monitor l sw = s.monitor l sw) ∧
      (forLegs f s).leg l = (f l t).leg l ∧ ∀ sw, (forLegs f s).monitor l sw = (f l t).monitor l sw := by
  refine forLegs_establishes
    (B := fun l t => SameButLegs s t ∧ t.leg l = s.leg l ∧ ∀ sw, t.monitor l sw = s.monitor l sw)
    (R := fun l u => ∃ t, SameButLegs s t ∧ t.leg l = s.leg l ∧ (∀ sw, t.monitor l sw = s.monitor l sw) ∧
      u.leg l = (f l t).leg l ∧ ∀ sw, u.monitor l sw = (f l t).monitor l sw) ?_ ?_ ?_ ?_ l
  · exact fun l t ⟨same, leg, mon⟩ => ⟨t, same, leg, mon, rfl, fun _ => rfl⟩
  · exact fun l k t hk ⟨same, leg, mon⟩ =>
      ⟨same.trans (frame l t).blocks, ((frame l t).legs k hk).trans leg,
        fun sw => ((frame l t).monitors k sw hk).trans (mon sw)⟩
  · exact fun l k t hk ⟨u, same, leg, mon, hleg, hmon⟩ =>
      ⟨u, same, leg, mon, ((frame l t).legs k hk).trans hleg, fun sw => ((frame l t).monitors k sw hk).trans (hmon sw)⟩
  · exact fun _ => ⟨.refl s, rfl, fun _ => rfl⟩

end

end Sys2Proof.Machine
end

section
/-! PROOF. Every leg fits its mode and the node state (Table 9, R36, R37, R112): first the conditions a leg can come to,
then the node's events that act on all six legs. -/

namespace Sys2Proof.Machine

/-! ### Conditions that fit -/

/-- A leg condition fits a leg record of a bank and a node state. -/
def FitsIn (p : LegRecord) (n : NodeState) (c : LegCond) : Prop :=
  c.setsFilled = true ∧ (p.mode.enabled = false → c = .off) ∧ (p.mode = .single → c.sparesLower = true) ∧
    (n ≠ .running → c.unrequested = true) ∧ (n.forbidsClamp = true → c.inert = true)

theorem legFits_iff (l : LegId) (s : State) : LegFits l s ↔ FitsIn (s.legParams l) s.ncu.state (s.leg l).cond := Iff.rfl

namespace FitsIn

variable {p : LegRecord} {n : NodeState} {c : LegCond}

theorem off (p : LegRecord) (n : NodeState) : FitsIn p n .off := ⟨rfl, fun _ => rfl, fun _ => rfl, fun _ => rfl, fun _ => rfl⟩

theorem heldOff (n : NodeState) {h : ChanSet} (hp : p.mode.enabled = true) (hh : h.isEmpty = false) :
    FitsIn p n (.heldOff h) :=
  ⟨by simp [LegCond.setsFilled, hh], fun hd => by simp [hp] at hd, fun _ => rfl, fun _ => rfl, fun _ => rfl⟩

theorem heldOrOff (n : NodeState) (h : ChanSet) (hp : p.mode.enabled = true) : FitsIn p n (heldOrOff h) := by
  unfold Machine.heldOrOff
  split
  · exact off p n
  · next hh => exact heldOff n hp (Bool.eq_false_of_not_eq_true hh)

theorem safe {cs : Causes} {ph : SafePhase} {k : Option Switch} (hp : p.mode.enabled = true)
    (hcs : cs.isEmpty = false) (hk : p.mode = .single → ph = .opened ∨ k ≠ some .lower)
    (hn : n.forbidsClamp = true → ph = .opened) : FitsIn p n (.safe cs ph k) := by
  refine ⟨by simp [LegCond.setsFilled, hcs], fun hd => by simp [hp] at hd, fun hs => ?_, fun _ => rfl, fun hf => ?_⟩
  · rcases hk hs with rfl | hlower
    · rfl
    · cases ph <;> simp [LegCond.sparesLower, hlower]
  · rw [hn hf]; rfl

theorem on {sw : Switch} (a : Time) (m e : Option Time) (d : Option Target) (hp : p.mode.enabled = true)
    (hs : p.mode = .single → sw = .upper) : FitsIn p .running (.on sw a m e d) :=
  ⟨rfl, fun hd => by simp [hp] at hd, fun h => by simp [LegCond.sparesLower, hs h], fun h => absurd rfl h,
    fun h => Bool.noConfusion h⟩

theorem gap {sw : Switch} (e : Time) (r : Bool) (hp : p.mode.enabled = true) (hs : p.mode = .single → sw = .upper) :
    FitsIn p .running (.gap sw e r) :=
  ⟨rfl, fun hd => by simp [hp] at hd, fun h => by simp [LegCond.sparesLower, hs h], fun h => absurd rfl h,
    fun h => Bool.noConfusion h⟩

/-- A leg that is not OFF is enabled. -/
theorem enabled (h : FitsIn p n c) (hc : c ≠ .off) : p.mode.enabled = true := by
  obtain ⟨-, hd, -⟩ := h
  by_contra he
  exact hc (hd (Bool.eq_false_of_not_eq_true he))

/-- A leg that is driven by a request, or waits for one's turn-on, is that of a RUNNING node. -/
theorem running (h : FitsIn p n c) (hc : c.unrequested = false) : n = .running := by
  obtain ⟨-, -, -, hu, -⟩ := h
  by_contra hn
  simp [hu hn] at hc

theorem spares (h : FitsIn p n c) (hs : p.mode = .single) : c.sparesLower = true := by
  obtain ⟨-, -, hl, -⟩ := h
  exact hl hs

theorem filled (h : FitsIn p n c) : c.setsFilled = true := by
  obtain ⟨hf, -⟩ := h
  exact hf

theorem inert (h : FitsIn p n c) (hn : n.forbidsClamp = true) : c.inert = true := by
  obtain ⟨-, -, -, -, hi⟩ := h
  exact hi hn

/-- What fits any node state fits RUNNING. -/
theorem toRunning (h : FitsIn p n c) : FitsIn p .running c := by
  obtain ⟨hf, hd, hs, -, -⟩ := h
  exact ⟨hf, hd, hs, fun hn => absurd rfl hn, fun hn => Bool.noConfusion hn⟩

/-- A leg outside requests fits any node state in which legs may clamp. -/
theorem toNode {m : NodeState} (h : FitsIn p n c) (hu : c.unrequested = true) (hi : m.forbidsClamp = true → c.inert = true) :
    FitsIn p m c := by
  obtain ⟨hf, hd, hs, -, -⟩ := h
  exact ⟨hf, hd, hs, fun _ => hu, hi⟩

end FitsIn

theorem Causes.isEmpty_add (c : Causes) (x : LegCause) : (c.add x).isEmpty = false := by
  cases x with
  | fi n => simp [Causes.add, Causes.isEmpty, ChanSet.isEmpty_set_true]
  | confirm => simp [Causes.add, Causes.isEmpty]
  | overlong => simp [Causes.add, Causes.isEmpty]
  | nodeHalt => simp [Causes.add, Causes.isEmpty]

/-! ### The clamp of a SINGLE leg -/

/-- In a valid bank no SINGLE leg clamps its lower switch (V3). -/
theorem clampSwitch_of_valid {b : Bank} (h : validate b = none) (l : LegId) (hs : (b.legs.get l).mode = .single) :
    clampSwitch (b.legs.get l).safeState ≠ some .lower := by
  have hv3 : checkV3 b = none := by
    simp only [validate, Option.or_eq_none_iff, Option.map_eq_none_iff] at h
    obtain ⟨-, -, h, -⟩ := h
    exact h
  simp only [checkV3, firstLeg, Option.map_eq_none_iff, List.find?_eq_none] at hv3
  have hl := hv3 l (by cases l <;> decide)
  intro hc
  have hstate : (b.legs.get l).safeState = .clampLower := by
    cases hss : (b.legs.get l).safeState <;> simp [clampSwitch, hss] at hc ⊢
  simp [hs, hstate, LegMode.enabled] at hl

/-- A leg that enters SAFE holds the causes given and the clamp given; its phase is OPEN where the clamp is suppressed. -/
theorem safeEntry_cond (p : LegRecord) (now : Time) (cs : Causes) (k : Option Switch) (b : Bool) (x : Leg) :
    ∃ ph, (safeEntry p now cs k b x).cond = .safe cs ph k ∧ (b = true → ph = .opened) := by
  cases b with
  | true => exact ⟨.opened, by rw [safeEntry_opened p now cs x (.inl rfl)], fun _ => rfl⟩
  | false =>
    cases k with
    | none => exact ⟨.opened, by rw [safeEntry_opened p now cs x (.inr rfl)], fun _ => rfl⟩
    | some sw =>
      by_cases hs : x.cond.side = some sw
      · exact ⟨.clamped, by rw [safeEntry_clamped p now cs x hs], fun h => absurd h (by simp)⟩
      · exact ⟨_, by rw [safeEntry_settling p now cs x hs], fun h => absurd h (by simp)⟩

/-! ### What each operation makes of its leg -/

section
variable {l : LegId} {s : State} {n : NodeState}

theorem fits_judgeLeg (h : FitsIn (s.legParams l) n (s.leg l).cond) :
    FitsIn (s.legParams l) n ((judgeLeg l s).leg l).cond := by
  unfold judgeLeg
  dsimp only
  split
  · next sw e hc =>
    rw [hc] at h
    split
    · have hn : n = .running := h.running rfl
      subst hn
      rw [leg_putLeg_same]
      exact FitsIn.on _ _ _ _ (h.enabled (by simp)) fun hs => by simpa [LegCond.sparesLower] using h.spares hs
    · rw [hc]; exact h
  · next cs e sw hc =>
    rw [hc] at h
    split
    · rw [leg_putLeg_same]
      refine FitsIn.safe (h.enabled (by simp)) (by simpa [LegCond.setsFilled] using h.filled) (fun hs => .inr ?_) fun hn => ?_
      · simpa [LegCond.sparesLower] using h.spares hs
      · exact Bool.noConfusion (h.inert hn)
    · rw [hc]; exact h
  · exact h

/-- The same after a reported replacement by a record that fits. -/
theorem fits_judgeLeg_putLeg (x : Leg) (h : FitsIn (s.legParams l) n x.cond) :
    FitsIn (s.legParams l) n ((judgeLeg l (putLeg l x s)).leg l).cond := by
  have same := (putLeg_same l x s).legParams l
  have judged := fits_judgeLeg (l := l) (s := putLeg l x s) (n := n) (by rw [same, leg_putLeg_same]; exact h)
  rwa [same] at judged

theorem fits_suppressClamp (h : FitsIn (s.legParams l) n (s.leg l).cond) :
    FitsIn (s.legParams l) n ((suppressClamp l s).leg l).cond := by
  unfold suppressClamp
  split
  · next cs k hc =>
    rw [hc] at h
    rw [leg_putLeg_same]
    exact FitsIn.safe (h.enabled (by simp)) (by simpa [LegCond.setsFilled] using h.filled) (fun _ => .inl rfl) fun _ => rfl
  · next cs e r k hc =>
    rw [hc] at h
    rw [leg_setLeg_same]
    exact FitsIn.safe (h.enabled (by simp)) (by simpa [LegCond.setsFilled] using h.filled) (fun _ => .inl rfl) fun _ => rfl
  · exact h

/-- A cause brings an enabled leg to SAFE with a phase that fits, in a valid bank, where a leg that is DISABLED or in
SAFE already fits (R42 to R44). -/
theorem fits_addCause_of (x : LegCause) (b : Bool) (hv : validate s.activeBank = none)
    (hn : s.ncu.state.forbidsClamp = n.forbidsClamp)
    (h : s.legEnabled l = false ∨ (s.leg l).cond.isSafe = true → FitsIn (s.legParams l) n (s.leg l).cond) :
    FitsIn (s.legParams l) n ((addCause l x b s).leg l).cond := by
  unfold addCause
  split
  · next he =>
    split
    · next cs ph k hc =>
      have hfit := h (.inr (by rw [hc]; rfl))
      rw [hc] at hfit
      have joined : FitsIn (s.legParams l) n (.safe (cs.add x) ph k) := by
        refine FitsIn.safe he (Causes.isEmpty_add cs x) (fun hs => ?_) fun hf => ?_
        · have hsp := hfit.spares hs
          cases ph <;> simp_all [LegCond.sparesLower]
        · have hi := hfit.inert hf
          cases ph <;> simp_all [LegCond.inert]
      dsimp only
      split
      · exact fits_suppressClamp (s := s.setLeg l _) (by rw [leg_setLeg_same]; exact joined)
      · rw [leg_setLeg_same]; exact joined
    · obtain ⟨ph, hph, hopen⟩ := safeEntry_cond (s.legParams l) s.now (Causes.empty.add x)
        (clampSwitch (s.legParams l).safeState) (b || s.ncu.state.forbidsClamp) (s.leg l)
      have entered : FitsIn (s.legParams l) n (.safe (Causes.empty.add x) ph (clampSwitch (s.legParams l).safeState)) := by
        refine FitsIn.safe he (Causes.isEmpty_add _ x) (fun hs => .inr (clampSwitch_of_valid hv l hs)) fun hf => hopen ?_
        rw [hn, hf, Bool.or_true]
      exact fits_judgeLeg_putLeg _ (by rw [hph]; exact entered)
  · next he => exact h (.inl (Bool.eq_false_of_not_eq_true he))

theorem fits_addCause (x : LegCause) (b : Bool) (hv : validate s.activeBank = none)
    (hn : s.ncu.state.forbidsClamp = n.forbidsClamp) (h : FitsIn (s.legParams l) n (s.leg l).cond) :
    FitsIn (s.legParams l) n ((addCause l x b s).leg l).cond := fits_addCause_of x b hv hn fun _ => h

theorem fits_setCauses (cs : Causes) (h : FitsIn (s.legParams l) n (s.leg l).cond) :
    FitsIn (s.legParams l) n ((setCauses l cs s).leg l).cond := by
  unfold setCauses
  split
  · next c ph k hc =>
    rw [hc] at h
    have he := h.enabled (by simp)
    split
    · rw [leg_putLeg_same]
      exact FitsIn.heldOrOff n _ he
    · next hcs =>
      rw [leg_setLeg_same]
      refine FitsIn.safe he (Bool.eq_false_of_not_eq_true hcs) (fun hs => ?_) fun hf => ?_
      · have hsp := h.spares hs
        cases ph <;> simp_all [LegCond.sparesLower]
      · have hi := h.inert hf
        cases ph <;> simp_all [LegCond.inert]
  · exact h

theorem fits_forceLeg (i : ChanId) (h : FitsIn (s.legParams l) n (s.leg l).cond) :
    FitsIn (s.legParams l) n ((forceLeg i l s).leg l).cond := by
  have single : ChanSet.isEmpty (ChanSet.single i) = false := ChanSet.isEmpty_set_true _ i
  unfold forceLeg
  split
  · next he =>
    cases hc : (s.leg l).cond with
    | safe a b c => exact h
    | heldOff g =>
      dsimp only
      rw [leg_setLeg_same]
      exact FitsIn.heldOff n he (ChanSet.isEmpty_set_true g i)
    | off =>
      dsimp only
      rw [leg_setLeg_same]
      exact FitsIn.heldOff n he single
    | gap p e r =>
      dsimp only
      rw [leg_setLeg_same]
      exact FitsIn.heldOff n he single
    | on a b c d e =>
      dsimp only
      rw [leg_putLeg_same]
      exact FitsIn.heldOff n he single
  · exact h

theorem fits_withdrawLeg (i : ChanId) (h : FitsIn (s.legParams l) n (s.leg l).cond) :
    FitsIn (s.legParams l) n ((withdrawLeg i l s).leg l).cond := by
  unfold withdrawLeg
  split
  · next g hc =>
    rw [hc] at h
    split
    · rw [leg_setLeg_same]
      exact FitsIn.heldOrOff n _ (h.enabled (by simp))
    · rw [hc]; exact h
  · exact h

theorem fits_stopLeg (h : FitsIn (s.legParams l) n (s.leg l).cond) :
    FitsIn (s.legParams l) n ((stopLeg l s).leg l).cond := by
  unfold stopLeg
  split
  · rw [leg_putLeg_same]; exact FitsIn.off _ n
  · rw [leg_setLeg_same]; exact FitsIn.off _ n
  · exact h

theorem fits_requestTurnOn {sw : Switch} (he : (s.legParams l).mode.enabled = true)
    (hs : (s.legParams l).mode = .single → sw = .upper) :
    FitsIn (s.legParams l) .running ((requestTurnOn l sw s).leg l).cond := by
  unfold requestTurnOn
  exact fits_judgeLeg (s := s.setLeg l _) (by rw [leg_setLeg_same]; exact FitsIn.gap _ _ he hs)

/-- A request on a leg of a RUNNING node leaves it fitting (R27 to R31, R36, R37). -/
theorem fits_requestLeg (t : Target) (h : FitsIn (s.legParams l) .running (s.leg l).cond) :
    FitsIn (s.legParams l) .running ((requestLeg l t s).leg l).cond := by
  unfold requestLeg
  split
  · exact h
  · next hm =>
    rw [modeRefuses_iff, not_or, not_and] at hm
    obtain ⟨hmode, hlower⟩ := hm
    have he : (s.legParams l).mode.enabled = true := by
      cases hmd : (s.legParams l).mode <;> simp_all [LegMode.enabled]
    have upper {sw : Switch} (ht : targetSwitch t = some sw) : (s.legParams l).mode = .single → sw = .upper := by
      intro hs
      cases t <;> simp [targetSwitch] at ht
      · exact ht.symm
      · exact absurd rfl (hlower hs)
    cases hc : (s.leg l).cond with
    | heldOff g => exact h
    | safe a b c => exact h
    | off =>
      dsimp only
      split
      · exact h
      · next sw ht => exact fits_requestTurnOn he (upper ht)
    | gap p e r =>
      dsimp only
      split
      · rw [leg_setLeg_same]; exact FitsIn.off _ _
      · next sw ht => exact fits_requestTurnOn he (upper ht)
    | on side a m b d =>
      rw [hc] at h
      have hside : (s.legParams l).mode = .single → side = .upper := fun hs => by
        simpa [LegCond.sparesLower] using h.spares hs
      cases m with
      | none =>
        show FitsIn _ _ ((requestElapsed l side t s).leg l).cond
        unfold requestElapsed
        split
        · rw [leg_putLeg_same]; exact FitsIn.off _ _
        · next sw ht =>
          split
          · rw [hc]; exact h
          · exact fits_judgeLeg_putLeg _ (FitsIn.gap _ _ he (upper ht))
      | some e =>
        show FitsIn _ _ ((requestDeferred l side a e b d t s).leg l).cond
        unfold requestDeferred
        dsimp only
        rw [leg_setLeg_same]
        exact FitsIn.on _ _ _ _ he hside

theorem sparesLower_dropDeferred (c : LegCond) : c.dropDeferred.sparesLower = c.sparesLower := by cases c <;> rfl

theorem FitsIn.dropDeferred {p : LegRecord} {c : LegCond} (h : FitsIn p n c) : FitsIn p n c.dropDeferred := by
  cases c with
  | on side a m e d =>
    obtain ⟨hf, hd, hs, hu, hi⟩ := h
    exact ⟨hf, fun hp => absurd (hd hp) (by simp), hs, hu, hi⟩
  | off => exact h
  | gap p e r => exact h
  | heldOff g => exact h
  | safe cs ph k => exact h

theorem FitsIn.of_enabled {p q : LegRecord} {c : LegCond} (h : FitsIn p n c) (hq : q.mode.enabled = true)
    (hs : q.mode = .single → c.sparesLower = true) : FitsIn q n c := by
  obtain ⟨hf, -, -, hu, hi⟩ := h
  exact ⟨hf, fun hd => by simp [hq] at hd, hs, hu, hi⟩

/-- A leg that fits its old mode fits its new one after the swap's effect on it (R140 to R142). -/
theorem fits_swapLeg (old : Bank) (h : FitsIn (old.legs.get l) n (s.leg l).cond) :
    FitsIn (s.legParams l) n ((swapLeg old l s).leg l).cond := by
  have disable : FitsIn (s.legParams l) n ((swapDisableLeg l s).leg l).cond := by
    unfold swapDisableLeg
    split
    · rw [leg_putLeg_same]; exact FitsIn.off _ _
    · rw [leg_setLeg_same]; exact FitsIn.off _ _
  have enable (ho : (old.legs.get l).mode = .disabled) :
      FitsIn (s.legParams l) n ((swapEnableLeg l s).leg l).cond := by
    obtain ⟨-, hd, -⟩ := h
    have hoff : (s.leg l).cond = .off := hd (by rw [ho]; rfl)
    unfold swapEnableLeg
    rw [leg_setLeg_same, hoff]
    exact FitsIn.off _ _
  have single (ho : (old.legs.get l).mode = .complementary) (hm : (s.legParams l).mode = .single) :
      FitsIn (s.legParams l) n ((swapToSingle l s).leg l).cond := by
    have hme : (s.legParams l).mode.enabled = true := by rw [hm]; rfl
    unfold swapToSingle
    dsimp only [leg_setMonitor]
    split
    · rw [leg_putLeg_same]; exact FitsIn.off _ _
    · rw [leg_setLeg_same]; exact FitsIn.off _ _
    · next cs ph hc =>
      rw [hc] at h
      have hcs : cs.isEmpty = false := by simpa [LegCond.setsFilled] using h.filled
      have opened : FitsIn (s.legParams l) n (.safe cs .opened (some .lower)) :=
        FitsIn.safe hme hcs (fun _ => .inl rfl) fun _ => rfl
      unfold suppressClamp
      rw [leg_setMonitor, hc]
      cases ph with
      | opened => dsimp only; rw [leg_setMonitor, hc]; exact opened
      | settling e r => dsimp only; rw [leg_setLeg_same]; exact opened
      | clamped => dsimp only; rw [leg_putLeg_same]; exact opened
    · next hon hgap hsafe =>
      rw [leg_setLeg_same]
      refine (h.of_enabled hme fun _ => ?_).dropDeferred
      cases hc : (s.leg l).cond with
      | off => rfl
      | on side a m e d =>
        cases side with
        | upper => rfl
        | lower => exact absurd hc (hon _ _ _ _)
      | gap p e r =>
        cases p with
        | upper => rfl
        | lower => exact absurd hc (hgap _ _)
      | heldOff g => rfl
      | safe cs ph k =>
        have hk : k ≠ some .lower := fun hk => hsafe cs ph (hk ▸ hc)
        cases ph <;> simp [LegCond.sparesLower, hk]
  have stays (ho : (old.legs.get l).mode = (s.legParams l).mode) : FitsIn (s.legParams l) n (s.leg l).cond := by
    obtain ⟨hf, hd, hs, hu, hi⟩ := h
    exact ⟨hf, by rwa [← ho], by rwa [← ho], hu, hi⟩
  unfold swapLeg
  split
  · next ho hm => exact stays (ho.trans hm.symm)
  · next ho hm => exact enable ho
  · next ho hm => exact enable ho
  · exact disable
  · next ho hm => exact stays (ho.trans hm.symm)
  · next ho hm => exact single ho hm
  · exact disable
  · next ho hm =>
    unfold swapToComplementary
    rw [leg_setLeg_same]
    refine (h.of_enabled (by rw [hm]; rfl) fun hs => ?_).dropDeferred
    rw [hm] at hs
    exact LegMode.noConfusion hs
  · next ho hm => exact stays (ho.trans hm.symm)

end

end Sys2Proof.Machine
end

section
/-! PROOF. Every step keeps every leg fitting its mode and the node state: the events that act on one leg, those that act
on all six, and the events of a step together with the node's consistency and the banks' validity. -/

namespace Sys2Proof.Machine

/-! ### One leg, and a loop over the legs -/

section
variable {s t : State}

theorem LegsFit.fits (h : LegsFit s) (l : LegId) : FitsIn (s.legParams l) s.ncu.state (s.leg l).cond := h l

/-- The legs' fitting looks at their conditions, their modes and the node state. -/
theorem legsFit_of_eq (h : LegsFit s) (hl : ∀ l, (t.leg l).cond = (s.leg l).cond)
    (hp : ∀ l, t.legParams l = s.legParams l) (hn : t.ncu.state = s.ncu.state) : LegsFit t := fun l => by
  rw [legFits_iff, hl, hp, hn]
  exact h l

theorem legsFit_of_same (h : LegsFit s) (hl : t.lge.legs = s.lge.legs) (hb : t.activeBank = s.activeBank)
    (hn : t.ncu.state = s.ncu.state) : LegsFit t :=
  legsFit_of_eq h (fun l => by rw [State.leg, State.leg, hl]) (fun l => by rw [State.legParams, State.legParams, hb]) hn

theorem legsFit_of_sameButReports (hs : SameButReports s t) (h : LegsFit s) : LegsFit t :=
  legsFit_of_same h (by rw [hs.lge]) (by rw [State.activeBank, State.activeBank, hs.bks]) (by rw [hs.ncu])

/-- An operation on one leg matters to that leg alone. -/
theorem legsFit_of_frame {l : LegId} (h : LegsFit s) (frame : LegFrame l s t)
    (fits : FitsIn (s.legParams l) s.ncu.state (t.leg l).cond) : LegsFit t := fun k => by
  rw [legFits_iff, frame.blocks.legParams, frame.blocks.ncu]
  by_cases hk : k = l
  · rw [hk]; exact fits
  · rw [frame.legs k hk]; exact h k

/-- A loop over the legs whose passes keep to their leg's frame and make each leg fit. -/
theorem legsFit_forLegs {f : LegId → State → State} {p : LegId → LegRecord} {n : NodeState}
    (frame : ∀ l t, LegFrame l t (f l t))
    (fits : ∀ l t, SameButLegs s t → FitsIn (p l) n (t.leg l).cond →
      FitsIn (t.legParams l) s.ncu.state ((f l t).leg l).cond)
    (h : ∀ l, FitsIn (p l) n (s.leg l).cond) : LegsFit (forLegs f s) := fun l => by
  obtain ⟨t, same, hleg, -, hafter, -⟩ := forLegs_leg (s := s) frame l
  have all : SameButLegs s (forLegs f s) := .ofForLegs (fun l t => (frame l t).blocks) s
  rw [legFits_iff, all.legParams, all.ncu, hafter, ← same.legParams]
  exact fits l t same (by rw [hleg]; exact h l)

/-! ### Events on all legs -/

/-- A leg that no request drives fits any node state once its clamp is suppressed. -/
theorem fits_suppressed {l : LegId} {p : LegRecord} {n : NodeState} (m : NodeState) (hu : (s.leg l).cond.unrequested = true)
    (h : FitsIn p n (s.leg l).cond) : FitsIn p m ((suppressClamp l s).leg l).cond := by
  unfold suppressClamp
  cases hc : (s.leg l).cond with
  | off =>
    dsimp only
    rw [hc]; exact FitsIn.off p m
  | on side a e d t => simp [hc, LegCond.unrequested] at hu
  | gap q e r => simp [hc, LegCond.unrequested] at hu
  | heldOff g =>
    rw [hc] at h
    dsimp only
    rw [hc]
    exact FitsIn.heldOff m (h.enabled (by simp)) (by simpa [LegCond.setsFilled] using h.filled)
  | safe cs ph k =>
    rw [hc] at h
    have opened : FitsIn p m (.safe cs .opened k) :=
      FitsIn.safe (h.enabled (by simp)) (by simpa [LegCond.setsFilled] using h.filled) (fun _ => .inl rfl) fun _ => rfl
    cases ph with
    | opened => dsimp only; rw [hc]; exact opened
    | settling e r => dsimp only; rw [leg_setLeg_same]; exact opened
    | clamped => dsimp only; rw [leg_putLeg_same]; exact opened

theorem legsFit_openSafeLegs {n : NodeState} (hn : n ≠ .running)
    (h : ∀ l, FitsIn (s.legParams l) n (s.leg l).cond) : LegsFit (openSafeLegs s) := by
  refine legsFit_forLegs (p := fun l => s.legParams l) (n := n) LegFrame.suppressClamp (fun l t same hfit => ?_) h
  obtain ⟨-, -, -, hu, -⟩ := id hfit
  rw [same.legParams]
  exact fits_suppressed _ (hu hn) hfit

/-- A stopped leg is driven by no request. -/
theorem unrequested_stopLeg (l : LegId) (s : State) : ((stopLeg l s).leg l).cond.unrequested = true := by
  unfold stopLeg
  split
  · rw [leg_putLeg_same]; rfl
  · rw [leg_setLeg_same]; rfl
  · next hon hgap =>
    cases hc : (s.leg l).cond with
    | on side a e d t => exact absurd hc (hon _ _ _ _ _)
    | gap q e r => exact absurd hc (hgap _ _ _)
    | off => rfl
    | heldOff g => rfl
    | safe cs ph k => rfl

theorem legsFit_disarmLegs {n : NodeState} (h : ∀ l, FitsIn (s.legParams l) n (s.leg l).cond) :
    LegsFit (disarmLegs s) := by
  refine legsFit_forLegs (p := fun l => s.legParams l) (n := n)
    (fun l t => (LegFrame.stopLeg l t).trans (LegFrame.suppressClamp l _)) (fun l t same hfit => ?_) h
  rw [← same.legParams] at hfit
  exact fits_suppressed _ (unrequested_stopLeg l t) (fits_stopLeg hfit)

/-- A leg that NODE-HALT reaches fits HALTED (R46). -/
theorem legsFit_haltLegs {n : NodeState} (hv : validate s.activeBank = none) (hs : s.ncu.state = .halted)
    (h : ∀ l, FitsIn (s.legParams l) n (s.leg l).cond) : LegsFit (haltLegs s) := by
  have frame (l : LegId) (t : State) :
      LegFrame l t (if (t.leg l).cond.causes.has .nodeHalt then t else addCause l .nodeHalt false t) := by
    split
    · exact .refl l t
    · exact .addCause l _ _ t
  refine legsFit_forLegs (p := fun l => s.legParams l) (n := n) frame (fun l t same hfit => ?_) h
  rw [← same.legParams] at hfit
  rw [hs]
  have safe (hsafe : (t.leg l).cond.isSafe = true) : FitsIn (t.legParams l) .halted (t.leg l).cond :=
    hfit.toNode (by cases hc : (t.leg l).cond <;> simp_all [LegCond.isSafe, LegCond.unrequested]) (fun hf => Bool.noConfusion hf)
  split
  · next hh => exact safe (by cases hc : (t.leg l).cond <;> simp_all [LegCond.isSafe, LegCond.causes, Causes.has, Causes.empty])
  · refine fits_addCause_of _ _ (by rw [same.activeBank]; exact hv) (by rw [same.ncu, hs]) fun hor => ?_
    rcases hor with hd | hsafe
    · obtain ⟨-, hoff, -⟩ := hfit
      rw [hoff hd]
      exact FitsIn.off _ _
    · exact safe hsafe

@[simp] theorem activeBank_report (b : RecBody) (s : State) : (report b s).activeBank = s.activeBank := by
  rw [State.activeBank, State.activeBank, bks_report]

@[simp] theorem activeBank_haltEnter (x : HaltCause) (s : State) : (haltEnter x s).activeBank = s.activeBank := by
  rw [State.activeBank, State.activeBank, bks_haltEnter]

@[simp] theorem activeBank_haltFurther (x : HaltCause) (s : State) : (haltFurther x s).activeBank = s.activeBank := by
  rw [State.activeBank, State.activeBank, bks_haltFurther]

theorem legsFit_haltEnter (x : HaltCause) (hv : validate s.activeBank = none) (h : LegsFit s) :
    LegsFit (haltEnter x s) := by
  have recorded : (haltRecorded x s).activeBank = s.activeBank := by
    rw [haltRecorded, activeBank_report]; rfl
  have hleg (l : LegId) : (haltRecorded x s).leg l = s.leg l := by
    rw [State.leg, haltRecorded, lge_report]; rfl
  have hncu : (haltRecorded x s).ncu.state = .halted := by rw [haltRecorded, ncu_report]; rfl
  have halted : LegsFit (haltLegs (haltRecorded x s)) :=
    legsFit_haltLegs (n := s.ncu.state) (by rw [recorded]; exact hv) hncu fun l => by
      rw [State.legParams, recorded, hleg]; exact h l
  have same := haltLegs_same (haltRecorded x s)
  exact legsFit_of_same halted (by rw [lge_haltEnter])
    (by rw [activeBank_haltEnter, same.activeBank, recorded]) (by rw [ncu_haltEnter, same.ncu, hncu])

theorem legsFit_haltFurther (x : HaltCause) (hs : s.ncu.state = .halted) (hv : validate s.activeBank = none)
    (h : LegsFit s) : LegsFit (haltFurther x s) := by
  refine legsFit_haltLegs (n := .halted) (by rw [activeBank_report]; exact hv) (by rw [ncu_report]; rfl) fun l => ?_
  rw [State.legParams, activeBank_report, State.leg, lge_report, ← hs]
  exact h l

end

/-! ### The monitors' and the channels' events -/

/-- In a valid active bank every leg fits. -/
def ValidLegs (s : State) : Prop := validate s.activeBank = none ∧ LegsFit s

theorem ValidLegs.of_frame {l : LegId} {s t : State} (h : ValidLegs s) (frame : LegFrame l s t)
    (fits : FitsIn (s.legParams l) s.ncu.state (s.leg l).cond → FitsIn (s.legParams l) s.ncu.state (t.leg l).cond) :
    ValidLegs t :=
  ⟨frame.blocks.activeBank ▸ h.1, legsFit_of_frame h.2 frame (fits (h.2 l))⟩

theorem ValidLegs.of_sameButReports {s t : State} (hs : SameButReports s t) (h : ValidLegs s) : ValidLegs t :=
  ⟨by rw [State.activeBank, hs.bks]; exact h.1, legsFit_of_sameButReports hs h.2⟩

theorem protKept_validLegs : ProtKept ValidLegs where
  judge l s h := h.of_frame (.judgeLeg l s) fits_judgeLeg
  cause l x b s h := h.of_frame (.addCause l x b s) (fits_addCause x b h.1 rfl)
  monitor _ _ _ _ _ h := h
  feedback _ _ h := h
  record b s _ h := h.of_sameButReports (report_same b s)
  capture l sw d c s h := h.of_sameButReports (captureEdge_same l sw d c s)
  enterHalt x s _ _ h := ⟨by rw [activeBank_haltEnter]; exact h.1, legsFit_haltEnter x h.1 h.2⟩
  furtherHalt x s hn h := ⟨by rw [activeBank_haltFurther]; exact h.1, legsFit_haltFurther x hn h.1 h.2⟩
  force i l s h := h.of_frame (.forceLeg i l s) (fits_forceLeg i)
  withdraw i l s h := h.of_frame (.withdrawLeg i l s) (fits_withdrawLeg i)
  causes l cs s h := h.of_frame (.setCauses l cs s) (fits_setCauses cs)
  pru _ _ h := h

/-! ### Taken entries, and the changes of the node state -/

/-- Entries taken in RUNNING are requests that leave their legs fitting. -/
theorem legsFit_takeEntries (es : List SchedEntry) {s : State} (hn : s.ncu.state = .running) (h : LegsFit s) :
    LegsFit (takeEntries es s) := by
  unfold takeEntries
  induction es generalizing s with
  | nil => exact h
  | cons e es ih =>
    have taken : (takeWork e.work s).ncu = s.ncu ∧ LegsFit (takeWork e.work s) := by
      unfold takeWork
      split
      · next l t _ =>
        have fits := h.fits l
        rw [hn] at fits
        exact ⟨(requestLeg_same _ _ s).ncu,
          legsFit_of_frame h (.requestLeg _ _ s) (by rw [hn]; exact fits_requestLeg t fits)⟩
      · unfold takeStrobe
        dsimp only
        split
        · exact ⟨rfl, h⟩
        · exact ⟨rfl, h⟩
    exact ih (by rw [taken.1, hn]) taken.2

theorem legsFit_take {s : State} {es : List SchedEntry} (rest : List SchedEntry) (hes : es.Sublist s.esu.schedule)
    (hc : NodeConsistent s) (h : LegsFit s) : LegsFit (takeEntries es (s.setSchedule rest)) := by
  by_cases hn : s.ncu.state = .running
  · exact legsFit_takeEntries es (s := s.setSchedule rest) hn h
  · rw [hc.schedule_eq_nil hn, List.sublist_nil] at hes
    subst hes
    exact h

theorem legsFit_swapBanks (f : CommitForm) {s : State} (hv : validate s.shadowBank = none) (h : LegsFit s) :
    LegsFit (swapBanks f s) := by
  have legs : ValidLegs (forLegs (swapLeg s.activeBank)
      (report (.commitDone f (exchangeBanks s).bks.active (exchangeBanks s).ctu.cycle) (exchangeBanks s))) := by
    have same := SameButLegs.ofForLegs (fun l t => swapLeg_same s.activeBank l t)
      (report (.commitDone f (exchangeBanks s).bks.active (exchangeBanks s).ctu.cycle) (exchangeBanks s))
    refine ⟨by rw [same.activeBank, activeBank_report, activeBank_exchangeBanks]; exact hv, ?_⟩
    refine legsFit_forLegs (p := fun l => s.legParams l) (n := s.ncu.state) (LegFrame.swapLeg s.activeBank)
      (fun l t same hfit => ?_) fun l => ?_
    · rw [ncu_report]
      exact fits_swapLeg s.activeBank hfit
    · rw [State.leg, lge_report]
      exact h l
  have discarded (keep : SchedEntry → Bool) (t : State) (ht : ValidLegs t) : ValidLegs (discardEntries keep .swap t) :=
    ⟨by rw [State.activeBank, bks_discardEntries]; exact ht.1,
      legsFit_of_same ht.2 (by rw [lge_discardEntries]) (by rw [State.activeBank, State.activeBank, bks_discardEntries])
        (by rw [ncu_discardEntries])⟩
  exact (protKept_validLegs.swapChannels _ (protKept_validLegs.swapMonitors _ (discarded _ _ legs))).2

/-- An ENUM taken in UNADDRESSED or STANDBY leaves the legs fitting (R47). -/
theorem legsFit_actEnum (hop : Byte) {s : State} (hn : s.ncu.state = .unaddressed ∨ s.ncu.state = .standby)
    (h : LegsFit s) : LegsFit (actEnum hop s) := by
  have hr : s.ncu.state ≠ .running := by rcases hn with hn | hn <;> simp [hn]
  have hf : s.ncu.state.forbidsClamp = true := by rcases hn with hn | hn <;> rw [hn] <;> rfl
  rcases hn with hn | hn
  · simp only [actEnum, hn]
    split
    · exact legsFit_openSafeLegs (n := s.ncu.state) hr fun l => h l
    · exact h
  · simp only [actEnum, hn]
    split
    · exact h
    · intro l
      have fits := h.fits l
      obtain ⟨-, -, -, hu, -⟩ := id fits
      exact fits.toNode (hu hr) fun _ => fits.inert hf

theorem legsFit_disarmNode {s : State} (h : LegsFit s) : LegsFit (disarmNode s) := by
  have legs : LegsFit (disarmed s) :=
    legsFit_disarmLegs (s := leaveOperation (s.idleMonitors.setNode .standby HaltSet.empty)) (n := s.ncu.state) fun l => h l
  rw [disarmNode_eq]
  exact legsFit_of_same legs (by simp [strobesLow]) (by simp [strobesLow, State.activeBank]) (by simp [strobesLow])

theorem legsFit_resumeNode {s : State} (hn : s.ncu.state = .halted) (hv : validate s.activeBank = none) (h : LegsFit s) :
    LegsFit (resumeNode s) := by
  have opened : ValidLegs (openSafeLegs (s.idleMonitors.setNode .standby HaltSet.empty)) := by
    refine ⟨by rw [(openSafeLegs_same _).activeBank]; exact hv, ?_⟩
    exact legsFit_openSafeLegs (s := s.idleMonitors.setNode .standby HaltSet.empty) (n := s.ncu.state) (by simp [hn])
      fun l => h l
  exact (forLegs_keeps (fun l t ht => protKept_validLegs.removeCause l _ ht) opened).2

/-- Legs that are all OFF fit. -/
theorem legsFit_of_off {s : State} (h : ∀ l, (s.leg l).cond = .off) : LegsFit s := fun l => by
  rw [legFits_iff, h l]
  exact FitsIn.off _ _

theorem leg_restartLegs (s : State) (l : LegId) : (restartLegs s).leg l = Leg.offAt s.now .off := by
  obtain ⟨t, same, -, -, hleg, -⟩ :=
    forLegs_leg (f := fun l t => putLeg l (Leg.offAt t.now .off) t) (s := s) (fun l t => .putLeg l _ t) l
  rw [leg_putLeg_same, same.now] at hleg
  exact hleg

theorem lge_restartBlocks (s : State) : (restartBlocks s).lge = (restartLegs (restartBase s)).lge := by
  simp [restartBlocks, restartBase, State.countLink]

theorem bks_restartBlocks (s : State) : (restartBlocks s).bks = s.bks := by
  have legs : (restartLegs (restartBase s)).bks = s.bks := (restartLegs_same _).bks
  simp only [restartBlocks, State.countLink, State.bks_setCiu, State.bks_setMgu, State.bks_setRpu, State.bks_setPru,
    State.bks_setFbm, State.bks_setEsu]
  exact legs

theorem leg_restartBlocks (s : State) (l : LegId) : (restartBlocks s).leg l = Leg.offAt s.now .off := by
  have after := leg_restartLegs (restartBase s) l
  rw [State.leg] at after ⊢
  rw [lge_restartBlocks, after]
  rfl

theorem activeBank_restartBlocks (s : State) : (restartBlocks s).activeBank = s.activeBank := by
  rw [State.activeBank, bks_restartBlocks]
  rfl

theorem legsFit_doRestart (m : ManageHead) {s : State} (hv : validate s.activeBank = none) : LegsFit (doRestart m s) := by
  have cancelled : ValidLegs (cancelCommit .restart (respond m 14 .done [] (restartBlocks s))) := by
    refine ⟨?_, legsFit_of_off fun l => ?_⟩
    · have hbank := activeBank_restartBlocks s
      rw [← hbank] at hv
      simpa [State.activeBank, respond_eq] using hv
    · have hoff := leg_restartBlocks s l
      simp only [State.leg, lge_cancelCommit, respond_eq, State.lge_setMgu, lge_report] at hoff ⊢
      rw [hoff]
      rfl
  exact (forChans_keeps (fun n t ht => protKept_validLegs.readInput n ht) cancelled).2

theorem lge_decodeEntry (c : Time) (n p : Half) (i : Nat) (e : Entry) (s : State) :
    (decodeEntry c n p i e s).lge = s.lge := by
  obtain ⟨-, hs⟩ | ⟨r, hs⟩ | ⟨d, -, -, -, hs⟩ := decodeEntry_cases c n p i e s
  · rw [hs]; rfl
  · rw [hs]; exact lge_report _ _
  · have same := congrArg State.lge (setEsu_placed (expand s.activeBank d c n p e) s)
    rw [hs]; exact same

theorem leg_tick (s : State) (l : LegId) : (tick s).leg l = restLeg (s.now + 1) (s.leg l) := by
  simp [tick, State.leg]

theorem cond_tick (s : State) (l : LegId) : ((tick s).leg l).cond = (s.leg l).cond := by
  rw [leg_tick, restLeg]
  split <;> rfl

/-! ### The events of a step -/

/-- The node is consistent, its banks are valid, and its legs fit. -/
def LegsSound (s : State) : Prop := NodeConsistent s ∧ BanksValid s ∧ LegsFit s

theorem LegsSound.validLegs {s : State} (h : LegsSound s) : ValidLegs s := ⟨h.2.1.1, h.2.2⟩

/-- A sound node is kept by the events of a step. -/
theorem stepKept_legsSound : StepKept LegsSound LegsSound :=
  have N := stepKept_nodeConsistent
  have B := blocksKept_banksValid.stepKept
  have V := protKept_validLegs
  { judge := fun l s h => ⟨N.judge l s h.1, B.judge l s h.2.1, (V.judge l s h.validLegs).2⟩
    cause := fun l x b s h => ⟨N.cause l x b s h.1, B.cause l x b s h.2.1, (V.cause l x b s h.validLegs).2⟩
    monitor := fun l sw m s hm h => ⟨N.monitor l sw m s hm h.1, B.monitor l sw m s hm h.2.1, h.2.2⟩
    feedback := fun f s h => ⟨N.feedback f s h.1, B.feedback f s h.2.1, h.2.2⟩
    record := fun b s hb h => ⟨N.record b s hb h.1, B.record b s hb h.2.1, (V.record b s hb h.validLegs).2⟩
    capture := fun l sw d c s h =>
      ⟨N.capture l sw d c s h.1, B.capture l sw d c s h.2.1, (V.capture l sw d c s h.validLegs).2⟩
    enterHalt := fun x s hu hh h =>
      ⟨N.enterHalt x s hu hh h.1, B.enterHalt x s hu hh h.2.1, (V.enterHalt x s hu hh h.validLegs).2⟩
    furtherHalt := fun x s hh h =>
      ⟨N.furtherHalt x s hh h.1, B.furtherHalt x s hh h.2.1, (V.furtherHalt x s hh h.validLegs).2⟩
    begins := fun _ h => h
    beginPending := fun _ _ h => h
    beginCiu := fun s h => ⟨N.beginCiu s h.1, B.beginCiu s h.2.1, h.2.2⟩
    beginCtu := fun x s hx hl h => ⟨N.beginCtu x s hx hl h.1, B.beginCtu x s hx hl h.2.1, h.2.2⟩
    beginRecord := fun b s hb h => ⟨N.record b s hb h.1, B.record b s hb h.2.1, (V.record b s hb h.validLegs).2⟩
    beginLock := fun s hn hl h =>
      ⟨N.beginLock s hn hl h.1, B.beginLock s hn hl h.2.1, fun l => (h.2.2.fits l).toRunning⟩
    ciu := fun x s ha hd hu h => ⟨N.ciu x s ha hd hu h.1, B.ciu x s ha hd hu h.2.1, h.2.2⟩
    ctu := fun x s hx hl h => ⟨N.ctu x s hx hl h.1, B.ctu x s hx hl h.2.1, h.2.2⟩
    rpu := fun x s hq ha h => ⟨N.rpu x s hq ha h.1, B.rpu x s hq ha h.2.1, h.2.2⟩
    send := fun r rest s hr h =>
      ⟨N.send r rest s hr h.1, B.send r rest s hr h.2.1, legsFit_of_sameButReports (sendRecord_same r rest s) h.2.2⟩
    mgu := fun _ _ h => h
    countEntries := fun _ _ h => h
    countLegs := fun f s h => ⟨N.countLegs f s h.1, B.countLegs f s h.2.1, h.2.2⟩
    countProt := fun _ _ h => h
    feedbackPin := fun _ _ _ _ h => h
    discard := fun keep r s h =>
      ⟨N.discard keep r s h.1, B.discard keep r s h.2.1,
        legsFit_of_same h.2.2 (by rw [lge_discardEntries])
          (by rw [State.activeBank, State.activeBank, bks_discardEntries]) (by rw [ncu_discardEntries])⟩
    decode := fun c n p i e s hn hc h =>
      ⟨N.decode c n p i e s hn hc h.1, B.decode c n p i e s hn hc h.2.1,
        legsFit_of_same h.2.2 (by rw [lge_decodeEntry]) (by rw [State.activeBank, State.activeBank, bks_decodeEntry])
          (by rw [ncu_decodeEntry])⟩
    takeDecoded := fun n s h =>
      ⟨N.takeDecoded n s h.1, B.takeDecoded n s h.2.1, legsFit_take _ List.filter_sublist h.1 h.2.2⟩
    scheduleTake := fun s hd h =>
      ⟨N.scheduleTake s hd h.1, B.scheduleTake s hd h.2.1, legsFit_take _ (splitDue_sublist s.esu.schedule).1 h.1 h.2.2⟩
    pulseEnd := fun x s h => ⟨N.pulseEnd x s h.1, B.pulseEnd x s h.2.1, h.2.2⟩
    request := fun l t s hu h =>
      have hn : s.ncu.state = .running := (h.2.2.fits l).running hu
      have fits : FitsIn (s.legParams l) .running (s.leg l).cond := hn ▸ h.2.2.fits l
      ⟨N.request l t s hu h.1, B.request l t s hu h.2.1,
        legsFit_of_frame h.2.2 (.requestLeg l t s) (by rw [hn]; exact fits_requestLeg t fits)⟩
    stop := fun l s h =>
      ⟨N.stop l s h.1, B.stop l s h.2.1, legsFit_of_frame h.2.2 (.stopLeg l s) (fits_stopLeg (h.2.2.fits l))⟩
    gapEnd := fun l sw e s hc hr h => by
      refine ⟨N.gapEnd l sw e s hc hr h.1, B.gapEnd l sw e s hc hr h.2.1, (V.judge l (s.setLeg l _) ⟨h.2.1.1, ?_⟩).2⟩
      have fits := h.2.2.fits l
      rw [hc] at fits
      exact legsFit_of_frame h.2.2 (.setLeg l _ s) (by
        rw [leg_setLeg_same]
        obtain ⟨hf, hd, hs, hu, hi⟩ := fits
        exact ⟨hf, fun he => absurd (hd he) (by simp), hs, hu, hi⟩)
    settleEnd := fun l cs e k s hc hr h => by
      refine ⟨N.settleEnd l cs e k s hc hr h.1, B.settleEnd l cs e k s hc hr h.2.1, (V.judge l (s.setLeg l _) ⟨h.2.1.1, ?_⟩).2⟩
      have fits := h.2.2.fits l
      rw [hc] at fits
      exact legsFit_of_frame h.2.2 (.setLeg l _ s) (by
        rw [leg_setLeg_same]
        obtain ⟨hf, hd, hs, hu, hi⟩ := fits
        exact ⟨hf, fun he => absurd (hd he) (by simp), hs, hu, hi⟩)
    minOnEnd := fun l side a e m d s hc h => by
      refine ⟨N.minOnEnd l side a e m d s hc h.1, B.minOnEnd l side a e m d s hc h.2.1, ?_⟩
      have fits := h.2.2.fits l
      rw [hc] at fits
      exact legsFit_of_frame h.2.2 (.setLeg l _ s) (by
        rw [leg_setLeg_same]
        obtain ⟨hf, hd, hs, hu, hi⟩ := fits
        exact ⟨hf, fun he => absurd (hd he) (by simp), hs, hu, hi⟩)
    clearLeg := fun l s h => ⟨N.clearLeg l s h.1, B.clearLeg l s h.2.1, (V.causes l _ s h.validLegs).2⟩
    firstSeen := fun s hn h => ⟨N.firstSeen s hn h.1, B.firstSeen s hn h.2.1, h.2.2⟩
    faultAssertion := fun n s t ht h =>
      ⟨N.faultAssertion n s t ht h.1, B.faultAssertion n s t ht h.2.1,
        (V.faultAssertion (fun _ _ h => h) n ht h.validLegs).2⟩
    faultDeassertion := fun n s t ht h =>
      ⟨N.faultDeassertion n s t ht h.1, B.faultDeassertion n s t ht h.2.1,
        (V.faultDeassertion (fun _ _ h => h) n ht h.validLegs).2⟩
    trip := fun n d fast v s hc h =>
      ⟨N.trip n d fast v s hc h.1, B.trip n d fast v s hc h.2.1, (V.tripChannel n v h.validLegs).2⟩
    release := fun n d s hc h =>
      ⟨N.release n d s hc h.1, B.release n d s hc h.2.1, (V.releaseChannel n _ h.validLegs).2⟩
    swap := fun f s hv h =>
      ⟨N.swap f s hv h.1, B.swap f s hv h.2.1, legsFit_swapBanks f (hv.elim id h.2.1.2) h.2.2⟩
    enum := fun hop s hn h => ⟨N.enum hop s hn h.1, B.enum hop s hn h.2.1, legsFit_actEnum hop hn h.2.2⟩
    arm := fun s hn h => by
      refine ⟨N.arm s hn h.1, B.arm s hn h.2.1, fun l => ?_⟩
      have fits := h.2.2.fits l
      obtain ⟨-, -, -, hu, -⟩ := id fits
      exact fits.toNode (hu (by simp [hn])) fun hf => Bool.noConfusion hf
    disarm := fun s hn h => ⟨N.disarm s hn h.1, B.disarm s hn h.2.1, legsFit_disarmNode h.2.2⟩
    resume := fun s hn h => ⟨N.resume s hn h.1, B.resume s hn h.2.1, legsFit_resumeNode hn h.2.1.1 h.2.2⟩
    restart := fun m s hn h => ⟨N.restart m s hn h.1, B.restart m s hn h.2.1, legsFit_doRestart m h.2.1.1⟩
    shadow := fun b s hp h =>
      ⟨N.shadow b s hp h.1, B.shadow b s hp h.2.1,
        legsFit_of_same h.2.2 rfl (activeBank_setBks_withShadow b s) rfl⟩
    commit := fun g s hn hv h => ⟨N.commit g s hn hv h.1, B.commit g s hn hv h.2.1, h.2.2⟩
    cancel := fun s h => ⟨N.cancel s h.1, B.cancel s h.2.1, h.2.2⟩
    hardReset := fun s h =>
      ⟨N.hardReset s h.1, B.hardReset s h.2.1, legsFit_of_off fun l => by cases l <;> rfl⟩
    tick := fun s hd h =>
      ⟨N.tick s hd h.1, B.tick s hd h.2.1, legsFit_of_eq h.2.2 (cond_tick s) (fun _ => rfl) rfl⟩
    queue := fun _ _ _ h => h }

/-- Settles O10: a sound node stays sound at every step. -/
theorem stepsKeepLegsFit : Obligations.StepsKeepLegsFit :=
  fun _ _ hn hb hl hstep => (stepKept_legsSound.step hstep ⟨hn, hb, hl⟩).2.2

end Sys2Proof.Machine
end

section
/-! PROOF. One step, time, the queue of due events, the reset state, and the strobes. -/

namespace Sys2Proof.Machine

/-- Settles O1: the step is defined so. -/
theorem stepTakesTheFrontCommand : Obligations.StepTakesTheFrontCommand := fun _ _ _ => rfl

/-! ### One tick -/

theorem restLeg_eq (now : Time) (x : Leg) :
    restLeg now x = { x with rested := x.rested || decide (1023 ≤ (now - x.lastOff).toNat) } := by
  unfold restLeg maxDeadTime
  split
  · next h => rw [decide_eq_true h, Bool.or_true]
  · next h => rw [decide_eq_false h, Bool.or_false]

theorem step_of_idle {s : State} (hp : s.pending = []) : step s = .next (runIdle s) := by
  rw [step, hp]

/-- Settles O2: a step with nothing waiting and nothing due is a tick. -/
theorem idleStepIsOneTick : Obligations.IdleStepIsOneTick := by
  intro s hp hd
  refine ⟨tick s, by rw [step_of_idle hp, runIdle, hd], rfl, rfl, fun l => ?_⟩
  rw [leg_tick, restLeg_eq]
  exact ⟨rfl, rfl, rfl⟩

/-! ### Due events -/

theorem mem_whenDue {b : Bool} {c i : Instr} : c ∈ whenDue b i ↔ b = true ∧ c = i := by
  cases b <;> simp [whenDue]

theorem whenDue_sublist (b : Bool) (i : Instr) : (whenDue b i).Sublist [i] := by
  cases b
  · exact List.nil_sublist _
  · exact .refl _

theorem timeDue_iff {now : Time} {x : Option Time} : timeDue now x = true ↔ ∃ d, x = some d ∧ reached now d = true := by
  cases x <;> simp [timeDue]

theorem gapDue_iff {now : Time} {c : LegCond} :
    c.gapDue now = true ↔ ∃ sw e, c = .gap sw e false ∧ reached now e = true := by
  cases c with
  | gap sw e r => cases r <;> simp [LegCond.gapDue]
  | off => simp [LegCond.gapDue]
  | on a b c d e => simp [LegCond.gapDue]
  | heldOff h => simp [LegCond.gapDue]
  | safe a b c => simp [LegCond.gapDue]

theorem minOnDue_iff {now : Time} {c : LegCond} :
    c.minOnDue now = true ↔ ∃ sd a e m d, c = .on sd a (some e) m d ∧ reached now e = true := by
  cases c with
  | on sd a e m d => cases e <;> simp [LegCond.minOnDue, timeDue]
  | off => simp [LegCond.minOnDue]
  | gap a b c => simp [LegCond.minOnDue]
  | heldOff h => simp [LegCond.minOnDue]
  | safe a b c => simp [LegCond.minOnDue]

theorem maxOnDue_iff {now : Time} {c : LegCond} :
    c.maxOnDue now = true ↔ ∃ sd a m e d, c = .on sd a m (some e) d ∧ reached now e = true := by
  cases c with
  | on sd a m e d => cases e <;> simp [LegCond.maxOnDue, timeDue]
  | off => simp [LegCond.maxOnDue]
  | gap a b c => simp [LegCond.maxOnDue]
  | heldOff h => simp [LegCond.maxOnDue]
  | safe a b c => simp [LegCond.maxOnDue]

theorem settleDue_iff {now : Time} {c : LegCond} :
    c.settleDue now = true ↔ ∃ cs e k, c = .safe cs (.settling e false) k ∧ reached now e = true := by
  cases c with
  | safe cs ph k =>
    cases ph with
    | settling e r => cases r <;> simp [LegCond.settleDue]
    | opened => simp [LegCond.settleDue]
    | clamped => simp [LegCond.settleDue]
  | off => simp [LegCond.settleDue]
  | on a b c d e => simp [LegCond.settleDue]
  | gap a b c => simp [LegCond.settleDue]
  | heldOff h => simp [LegCond.settleDue]

theorem watchDue_iff {now : Time} {m : Monitor} :
    m.watchDue now = true ↔ ∃ e a d, m = .watching e a d ∧ reached now d = true := by
  cases m <;> simp [Monitor.watchDue]

theorem filterDue_iff {now : Time} {m : Monitor} :
    m.filterDue now = true ↔ ∃ d, m = .filtering d ∧ reached now d = true := by
  cases m <;> simp [Monitor.filterDue]

theorem qualifyDue_iff {now : Time} {c : Channel} :
    c.qualifyDue now = true ↔ ∃ d b v, c = .qualifying d b v ∧ reached now d = true := by
  cases c <;> simp [Channel.qualifyDue]

theorem releaseDue_iff {now : Time} {c : Channel} :
    c.releaseDue now = true ↔ ∃ d, c = .holding d ∧ reached now d = true := by
  cases c <;> simp [Channel.releaseDue]

theorem windowDue_iff (s : State) : windowDue s = true ↔ WindowCloses s := by
  simp only [windowDue, WindowCloses, windowClose, windowCentre, Bool.and_eq_true, decide_eq_true_eq]

theorem headDue_iff (s : State) :
    headDue s = true ↔ ∃ e rest, s.esu.schedule = e :: rest ∧ reached s.now e.due = true := by
  rw [headDue]
  cases h : s.esu.schedule <;> simp [timeDue]

@[simp] theorem mem_allLegs (l : LegId) : l ∈ allLegs := by cases l <;> decide

@[simp] theorem mem_allChans (n : ChanId) : n ∈ allChans := by cases n <;> decide

@[simp] theorem mem_allStrobes (x : StrobeId) : x ∈ allStrobes := by cases x <;> decide

@[simp] theorem mem_allSwitches (x : LegId × Switch) : x ∈ allSwitches := by
  obtain ⟨l, sw⟩ := x
  cases sw <;> simp [allSwitches]

/-- The events that are due, each with what makes it due (R2). -/
theorem mem_dueCommands {c : Instr} {s : State} :
    c ∈ dueCommands s ↔
      (windowDue s = true ∧ c = .windowClose) ∨ (headDue s = true ∧ c = .scheduleTake) ∨
        (∃ x, timeDue s.now (s.esu.pulses.get x) = true ∧ c = .pulseEnd x) ∨
        (∃ l, ((s.leg l).cond.gapDue s.now = true ∧ c = .gapEnd l) ∨
          ((s.leg l).cond.minOnDue s.now = true ∧ c = .minOnEnd l) ∨
          ((s.leg l).cond.maxOnDue s.now = true ∧ c = .maxOnEnd l) ∨
          ((s.leg l).cond.settleDue s.now = true ∧ c = .settleEnd l)) ∨
        (∃ l sw, ((s.monitor l sw).watchDue s.now = true ∧ c = .watchDeadline l sw) ∨
          ((s.monitor l sw).filterDue s.now = true ∧ c = .filterEnd l sw)) ∨
        ∃ n, ((s.channel n).qualifyDue s.now = true ∧ c = .qualifyDeadline n) ∨
          ((s.channel n).releaseDue s.now = true ∧ c = .release n) := by
  simp only [dueCommands, dueOfLeg, dueOfMonitor, dueOfChannel, List.mem_append, List.mem_flatMap, mem_whenDue,
    mem_allLegs, mem_allChans, mem_allStrobes, mem_allSwitches, true_and, or_assoc, Prod.exists]

/-- Every timed event, each once, in the order in which the due ones are listed. -/
def timedCommands : List Instr :=
  [.windowClose] ++ [.scheduleTake] ++ (allStrobes.flatMap fun x => [.pulseEnd x]) ++
    (allLegs.flatMap fun l => [.gapEnd l] ++ [.minOnEnd l] ++ [.maxOnEnd l] ++ [.settleEnd l]) ++
    (allSwitches.flatMap fun x => [.watchDeadline x.1 x.2] ++ [.filterEnd x.1 x.2]) ++
    (allChans.flatMap fun n => [.qualifyDeadline n] ++ [.release n])

theorem dueCommands_sublist (s : State) : (dueCommands s).Sublist timedCommands := by
  have w := whenDue_sublist
  refine .append (.append (.append (.append (.append (w _ _) (w _ _)) ?_) ?_) ?_) ?_
  · exact List.Sublist.flatMap_right _ fun x _ => w _ _
  · exact List.Sublist.flatMap_right _ fun l _ => .append (.append (.append (w _ _) (w _ _)) (w _ _)) (w _ _)
  · exact List.Sublist.flatMap_right _ fun x _ => .append (w _ _) (w _ _)
  · exact List.Sublist.flatMap_right _ fun n _ => .append (w _ _) (w _ _)

theorem dueCommands_nodup (s : State) : (dueCommands s).Nodup :=
  (show timedCommands.Nodup by decide).sublist (dueCommands_sublist s)

theorem insertByRank_perm (rank : Instr → Nat) (i : Instr) (es : List Instr) : (insertByRank rank i es).Perm (i :: es) := by
  induction es with
  | nil => exact .refl _
  | cons x rest ih =>
    unfold insertByRank
    split
    · exact .refl _
    · exact (ih.cons x).trans (List.Perm.swap i x rest)

theorem sortByRank_perm (rank : Instr → Nat) (es : List Instr) : (sortByRank rank es).Perm es := by
  induction es with
  | nil => exact .refl _
  | cons i rest ih => exact (insertByRank_perm rank i _).trans (ih.cons i)

theorem runIdle_of_due {s : State} (hd : dueCommands s ≠ []) :
    runIdle s = (s.setPending (sortByRank (Config.takeRank s.freeIndex) (dueCommands s))).setFreeIndex (s.freeIndex + 1) := by
  unfold runIdle
  split
  · next h => exact absurd h hd
  · rfl

/-- Settles O3: the due events are those of `mem_dueCommands`, and sorting them keeps them. -/
theorem dueEventsEnterTheQueueAtTheirTimes : Obligations.DueEventsEnterTheQueueAtTheirTimes := by
  refine ⟨fun s hp hd => ⟨runIdle s, step_of_idle hp, ?_, ?_⟩, fun s => ⟨?_, ?_, fun x => ?_, fun l => ?_, fun l => ?_,
    fun l => ?_, fun l => ?_, fun l sw => ?_, fun l sw => ?_, fun n => ?_, fun n => ?_⟩,
    fun s => ⟨dueCommands_nodup s, fun c hc => ?_⟩⟩
  · rw [runIdle_of_due hd]
    exact sortByRank_perm _ _
  · rw [runIdle_of_due hd]
    rfl
  · rw [mem_dueCommands, ← windowDue_iff]; simp
  · rw [mem_dueCommands, ← headDue_iff]; simp
  · rw [mem_dueCommands, ← timeDue_iff]; simp
  · rw [mem_dueCommands, ← gapDue_iff]; simp
  · rw [mem_dueCommands, ← minOnDue_iff]; simp
  · rw [mem_dueCommands, ← maxOnDue_iff]; simp
  · rw [mem_dueCommands, ← settleDue_iff]; simp
  · rw [mem_dueCommands, ← watchDue_iff]; simp
  · rw [mem_dueCommands, ← filterDue_iff]; simp
  · rw [mem_dueCommands, ← qualifyDue_iff]; simp
  · rw [mem_dueCommands, ← releaseDue_iff]; simp
  · rcases mem_dueCommands.1 hc with ⟨-, h⟩ | ⟨-, h⟩ | ⟨x, -, h⟩ | ⟨l, ⟨-, h⟩ | ⟨-, h⟩ | ⟨-, h⟩ | ⟨-, h⟩⟩ |
      ⟨l, sw, ⟨-, h⟩ | ⟨-, h⟩⟩ | ⟨n, ⟨-, h⟩ | ⟨-, h⟩⟩ <;> subst h <;> simp

/-! ### Reset -/

/-- Settles O5: a hard reset brings every block to its reset value. -/
theorem hardResetStatesTheNode : Obligations.HardResetStatesTheNode := by
  refine fun s => ⟨hardReset s, rfl, rfl, rfl, rfl, rfl, rfl, fun l => ?_, fun l sw => ?_, rfl, fun x => ?_, fun n => ?_, rfl,
    rfl, rfl, rfl, rfl, rfl⟩
  · cases l <;> exact ⟨rfl, rfl⟩
  · cases l <;> cases sw <;> exact ⟨rfl, rfl⟩
  · cases x <;> rfl
  · cases n <;> exact ⟨rfl, rfl⟩

/-- Settles O6: the stores are empty, and the blocks have their reset values. -/
theorem resetMeetsTheInvariants : Obligations.ResetMeetsTheInvariants := by
  refine ⟨by simp [StoresBounded, State.reset, Rpu.initial, Esu.initial, Ciu.initial], reportsOk_initial rfl rfl,
    nodeConsistent_initial rfl rfl rfl rfl rfl rfl, banksValid_initial rfl, legsFit_of_off fun l => ?_,
    ⟨trivial, fun e he => absurd he (by simp [State.reset, Esu.initial]), trivial⟩, reset_follow rfl rfl⟩
  cases l <;> rfl

/-! ### Strobes -/

/-- Settles O38: a taken strobe entry starts or lengthens the pulse, and PULSE_END ends it. -/
theorem strobesPulseForTheirWidth : Obligations.StrobesPulseForTheirWidth := by
  refine fun x s => ⟨?_, fun d hd hr => ?_⟩
  · unfold takeStrobe
    cases hp : s.esu.pulses.get x with
    | none => simp [State.countEntries]
    | some d => simp [State.countEntries]
  · simp [exec, execPulseEnd, hd, timeDue, hr]

end Sys2Proof.Machine
end

section
/-! PROOF. What no command changes: node time, the input pins, the model's queue, and the banks' contents (`Keeps`). -/

namespace Sys2Proof.Machine

/-- From `s` to `t` node time, the pins and the model's queue are the same, and where `b` holds so are both banks. -/
structure Keeps (b : Prop) (s t : State) : Prop where
  now : t.now = s.now
  pins : t.pins = s.pins
  pending : t.pending = s.pending
  freeIndex : t.freeIndex = s.freeIndex
  banks : b → t.bks.bankA = s.bks.bankA ∧ t.bks.bankB = s.bks.bankB

namespace Keeps

variable {b : Prop} {s t u : State}

theorem refl (s : State) : Keeps b s s := ⟨rfl, rfl, rfl, rfl, fun _ => ⟨rfl, rfl⟩⟩

theorem outside (h : Keeps b s t) (g : SameOutside t u) : Keeps b s u :=
  ⟨g.now.trans h.now, g.pins.trans h.pins, g.pending.trans h.pending, g.freeIndex.trans h.freeIndex,
    fun hb => ⟨g.bankA.trans (h.banks hb).1, g.bankB.trans (h.banks hb).2⟩⟩

theorem legs (h : Keeps b s t) (g : SameButLegs t u) : Keeps b s u := h.outside g.outside

theorem reports (h : Keeps b s t) (g : SameButReports t u) : Keeps b s u := h.outside g.outside

theorem setCtu (h : Keeps b s t) (x : Ctu) (hx : x.nodeTime = t.ctu.nodeTime) : Keeps b s (t.setCtu x) :=
  ⟨hx.trans h.now, h.pins, h.pending, h.freeIndex, h.banks⟩

theorem setEsu (h : Keeps b s t) (x : Esu) : Keeps b s (t.setEsu x) := h.outside (.setEsu x t)
theorem setLge (h : Keeps b s t) (x : Lge) : Keeps b s (t.setLge x) := h.outside (.setLge x t)
theorem setFbm (h : Keeps b s t) (x : Fbm) : Keeps b s (t.setFbm x) := h.outside (.setFbm x t)
theorem setPru (h : Keeps b s t) (x : Pru) : Keeps b s (t.setPru x) := h.outside (.setPru x t)
theorem setNcu (h : Keeps b s t) (x : Ncu) : Keeps b s (t.setNcu x) := h.outside (.setNcu x t)
theorem setRpu (h : Keeps b s t) (x : Rpu) : Keeps b s (t.setRpu x) := h.reports (setRpu_same x t)
theorem setMgu (h : Keeps b s t) (x : Mgu) : Keeps b s (t.setMgu x) := ⟨h.now, h.pins, h.pending, h.freeIndex, h.banks⟩
theorem setCiu (h : Keeps b s t) (x : Ciu) : Keeps b s (t.setCiu x) := ⟨h.now, h.pins, h.pending, h.freeIndex, h.banks⟩

/-- Which bank is active and what commit is pending are no content of a bank. -/
theorem setPendingCommit (h : Keeps b s t) (g : Option Half) : Keeps b s (t.setBks { t.bks with pending := g }) :=
  ⟨h.now, h.pins, h.pending, h.freeIndex, h.banks⟩

/-- Replacing the shadow keeps all but the banks. -/
theorem setShadow (h : Keeps b s t) (x : Bank) (hb : ¬b) : Keeps b s (t.setBks (t.bks.withShadow x)) :=
  ⟨h.now, h.pins, h.pending, h.freeIndex, fun hb' => absurd hb' hb⟩

theorem respond (h : Keeps b s t) (m : ManageHead) (code : BitVec 4) (st : Status) (data : List Quad) :
    Keeps b s (respond m code st data t) :=
  (h.reports (report_same _ t)).setMgu _

/-! ### The return path -/

theorem moveUp (h : Keeps b s t) (f : ReturnFrame) : Keeps b s (moveUp f t) := by
  unfold Machine.moveUp
  split
  · exact h.setCiu _
  · split
    · exact h.setCiu _
    · split
      · exact h.setCiu _
      · exact (h.reports (collect_same _ _ _ t)).setCiu _

theorem passOn (h : Keeps b s t) (f : DownFrame) : Keeps b s (passOn f t) := by
  unfold Machine.passOn
  split
  · unfold offerDown
    split
    · exact h.setCiu _
    · exact h.setCiu _
  · exact (h.setCiu _).moveUp _

theorem receiveD (h : Keeps b s t) (bytes : List Byte) : Keeps b s (receiveD bytes t) := by
  have ended : Keeps b s (endReceptionD t) := h.setCiu _
  unfold Machine.receiveD
  split
  · split
    · exact (ended.setCiu _).moveUp _
    · unfold arriveReturn
      split
      · exact ended.moveUp _
      · split
        · exact (ended.setRpu _).moveUp _
        · exact ended.moveUp _
    · exact ended.setCiu _
  · exact h

/-! ### Marks and CYCLE frames -/

theorem countTiming (h : Keeps b s t) (f : TimingCounters → TimingCounters) : Keeps b s (t.countTiming f) :=
  h.setCtu _ (by rfl)

theorem takeDecoded (h : Keeps b s t) (n : Half) : Keeps b s (takeDecoded n t) :=
  (h.setEsu _).outside (takeEntries_outside _ _)

theorem acceptMark (h : Keeps b s t) (c : Time) (f : CycleFrame) : Keeps b s (acceptMark c f t) := by
  have marked : Keeps b s (markAccepted c f t) := by
    unfold markAccepted resumeSync
    split
    · exact (h.setCtu _ (by rfl)).countTiming _
    · exact (((h.setCtu _ (by rfl)).countTiming _).reports (report_same _ _)).setCtu _ (by rfl)
  have checked := marked.outside (commitCheck_outside _)
  rw [acceptMark_eq]
  split
  · exact checked
  · exact ((checked.setCtu _ (by rfl)).outside (decodeEntriesFrom_outside _ _ _ _ _ _)).takeDecoded _

theorem firstFrame (h : Keeps b s t) (c : Time) (f : CycleFrame) : Keeps b s (firstFrame c f t) := by
  unfold Machine.firstFrame
  exact (((h.setCtu _ (by rfl)).setCtu _ (by rfl)).setEsu _).countTiming _

theorem takeCycle (h : Keeps b s t) (f : CycleFrame) : Keeps b s (takeCycle f t) := by
  have syncing (c : Time) : Keeps b s (syncingFrame c f t) := by
    unfold syncingFrame
    split
    · exact h.firstFrame _ _
    · split
      · exact ((h.setCtu _ (by rfl)).setNcu _).acceptMark _ _
      · exact h.firstFrame _ _
    · exact h.firstFrame _ _
  have running (c : Time) : Keeps b s (runningFrame c f t) := by
    unfold runningFrame
    split
    · split
      · exact h.countTiming _
      · exact (h.countTiming _).acceptMark _ _
    · exact h.countTiming _
    · split
      · exact h.countTiming _
      · exact h.countTiming _
  have checked (judge : Time → CycleFrame → State → State) (hj : ∀ c, Keeps b s (judge c f t)) :
      Keeps b s (periodChecked judge f t) := by
    unfold periodChecked
    split
    · exact hj _
    · exact h.countTiming _
  unfold Machine.takeCycle
  cases t.ncu.state with
  | unaddressed => exact h.countTiming _
  | standby => exact h.countTiming _
  | syncing => exact checked _ syncing
  | running => exact checked _ running
  | halted => exact h.countTiming _

theorem linkLoss (h : Keeps b s t) : Keeps b s (linkLoss t) := (h.countTiming _).outside (haltOrder_outside _ _)

theorem coastOrder (h : Keeps b s t) : Keeps b s (coastOrder t) :=
  (h.outside (discardEntries_outside _ _ _)).legs (coastLegs_same _)

/-- A closed window: in SYNCING a coasted mark or a halt, in RUNNING the commit check first (R9, R13). -/
theorem windowClosed (h : Keeps b s t) : Keeps b s (coastSyncing t) ∧ Keeps b s (coastRunning t) := by
  have marked : Keeps b s (declareCoast t) := (h.setCtu _ (by rfl)).countTiming _
  have checked := marked.outside (commitCheck_outside _)
  have continued {u : State} (hu : Keeps b s u) : Keeps b s (coastContinue u) := by
    have loaded : Keeps b s (loadInForce u) := hu.setCtu _ (by rfl)
    unfold coastContinue
    dsimp only
    split
    · exact (loaded.reports (report_same _ _)).coastOrder
    · exact loaded.coastOrder
  refine ⟨?_, ?_⟩
  · unfold coastSyncing
    dsimp only
    split
    · exact marked.linkLoss
    · exact marked
  · unfold coastRunning
    dsimp only
    split
    · exact checked
    · split
      · exact checked.linkLoss
      · exact continued checked

/-! ### Requests and ENUM -/

theorem actEnum (h : Keeps b s t) (hop : Byte) : Keeps b s (actEnum hop t) := by
  have checked : Keeps b s (checkTopology hop t) := by
    unfold checkTopology
    split
    · exact h
    · exact (h.setCiu _).outside (haltOrder_outside _ _)
  unfold Machine.actEnum
  cases t.ncu.state with
  | unaddressed =>
    dsimp only
    split
    · exact ((h.setCiu _).setNcu _).legs (openSafeLegs_same _)
    · exact h.setCiu _
  | standby =>
    dsimp only
    split
    · exact h.setCiu _
    · exact (h.setCiu _).setNcu _
  | syncing => exact checked
  | running => exact checked
  | halted => exact checked

theorem doCounters (h : Keeps b s t) (m : ManageHead) (g p : Byte) (f : Bool) : Keeps b s (doCounters m g p f t) := by
  have page {u : State} (x : Snapshot) (hu : Keeps b s u) : Keeps b s (respondPage m p x u) := by
    unfold respondPage
    split
    · exact hu.respond _ _ _ _
    · exact hu.respond _ _ _ _
  have cleared {u : State} (hu : Keeps b s u) : Keeps b s (clearGroup g u) := by
    unfold clearGroup
    split
    · exact (hu.setCiu _).setRpu _
    · split
      · exact hu.countTiming _
      · split
        · exact (((hu.setEsu _).setLge _).setFbm _).setPru _
        · exact hu
  unfold Machine.doCounters
  split
  · exact h.respond _ _ _ _
  · split
    · exact h.respond _ _ _ _
    · split
      · refine page _ ?_
        split
        · exact cleared (h.setMgu _)
        · exact h.setMgu _
      · exact page _ h

theorem doCommit (h : Keeps b s t) (m : ManageHead) (g : Half) :
    Keeps b s (doCommitImmediate m t) ∧ Keeps b s (doCommitTargeted m g t) := by
  refine ⟨?_, ?_⟩
  · unfold doCommitImmediate
    split
    · exact h.respond _ _ _ _
    · split
      · exact h.respond _ _ _ _
      · exact (h.outside (swapBanks_outside _ _)).respond _ _ _ _
  · unfold doCommitTargeted
    split
    · exact h.respond _ _ _ _
    · split
      · split
        · exact h.respond _ _ _ _
        · exact (h.setPendingCommit _).respond _ _ _ _
      · exact h.respond _ _ _ _

theorem disarmNode (h : Keeps b s t) : Keeps b s (disarmNode t) := by
  have legs : Keeps b s (disarmed t) := (((h.setFbm _).setNcu _).setCtu _ (by rfl)).legs (disarmLegs_same _)
  rw [disarmNode_eq]
  exact ((legs.outside (discardEntries_outside _ _ _)).outside (strobesLow_outside _)).outside (cancelCommit_outside _ _)

theorem resumeNode (h : Keeps b s t) : Keeps b s (resumeNode t) :=
  (((h.setFbm _).setNcu _).legs (openSafeLegs_same _)).legs (.ofForLegs (fun l u => removeCause_same l _ u) _)

theorem doRestart (h : Keeps b s t) (m : ManageHead) : Keeps b s (doRestart m t) := by
  have legs : Keeps b s (restartLegs (restartBase t)) :=
    ((((h.setFbm _).setNcu _).setCtu _ (by rfl)).setCtu _ (by rfl)).legs (restartLegs_same _)
  have blocks : Keeps b s (restartBlocks t) :=
    (((((legs.setEsu _).setFbm _).setPru _).setRpu _).setMgu _).setCiu _
  exact ((blocks.respond _ _ _ _).outside (cancelCommit_outside _ _)).outside (.ofForChans (fun n u => readInput_outside n u) _)

end Keeps

/-! ### Frames and commands -/

/-- The requests that write a bank. -/
def Request.writesBank : Request → Bool
  | .write _ _ _ => true
  | .copy => true
  | _ => false

/-- The frames that write a bank. -/
def DownFrame.writesBank : DownFrame → Bool
  | .manage _ r => r.writesBank
  | _ => false

/-- A request that writes no bank, or that finds a commit pending, leaves the banks' contents as they are. -/
theorem doRequest_keeps (m : ManageHead) (r : Request) (s : State) :
    Keeps (r.writesBank = false ∨ s.bks.pending.isSome = true) s (doRequest m r s) := by
  have h : Keeps (r.writesBank = false ∨ s.bks.pending.isSome = true) s s := .refl s
  cases r with
  | echo data => exact h.respond _ _ _ _
  | status => exact (h.setRpu _).respond _ _ _ _
  | counters g p f => exact h.doCounters m g p f
  | read b t i =>
    show Keeps _ s (doRead m b t i s)
    unfold doRead
    split
    · exact h.respond _ _ _ _
    · split
      · exact h.respond _ _ _ _
      · split
        · exact h.respond _ _ _ _
        · exact h.respond _ _ _ _
  | write t i x =>
    show Keeps _ s (doWrite m t i x s)
    unfold doWrite
    split
    · exact h.respond _ _ _ _
    · split
      · exact h.respond _ _ _ _
      · next hp =>
        split
        · exact h.respond _ _ _ _
        · exact (h.setShadow _ (by simp [Request.writesBank, hp])).respond _ _ _ _
  | copy =>
    show Keeps _ s (doCopy m s)
    unfold doCopy
    split
    · exact h.respond _ _ _ _
    · next hp => exact (h.setShadow _ (by simp [Request.writesBank, hp])).respond _ _ _ _
  | commitImmediate x => exact (h.doCommit m x).1
  | commitTargeted g => exact (h.doCommit m g).2
  | cancel =>
    show Keeps _ s (doCancel m s)
    unfold doCancel
    split
    · exact h.respond _ _ _ _
    · exact (h.setPendingCommit _).respond _ _ _ _
  | arm =>
    show Keeps _ s (doArm m s)
    unfold doArm
    split
    · exact ((((h.setCtu _ (by rfl)).setCtu _ (by rfl)).setNcu _).outside (startMonitors_outside _)).respond _ _ _ _
    · exact h.respond _ _ _ _
  | disarm => exact h.disarmNode.respond _ _ _ _
  | clear v =>
    show Keeps _ s (doClear m v s)
    unfold doClear
    split
    · exact (h.legs (clearLegs_same _ s)).respond _ _ _ _
    · exact h.respond _ _ _ _
  | resume =>
    show Keeps _ s (doResume m s)
    unfold doResume
    split
    · exact h.resumeNode.respond _ _ _ _
    · exact h.respond _ _ _ _
  | flush => exact (h.outside (discardEntries_outside _ _ s)).respond _ _ _ _
  | restart => exact h.doRestart m
  | unknown c p => exact h.respond _ _ _ _

theorem actDown_keeps (f : DownFrame) (s : State) :
    Keeps (f.writesBank = false ∨ s.bks.pending.isSome = true) s (actDown f s) := by
  have h : Keeps (f.writesBank = false ∨ s.bks.pending.isSome = true) s s := .refl s
  cases f with
  | enum hop => exact h.actEnum hop
  | cycle f => exact h.takeCycle f
  | manage m r =>
    show Keeps _ s (takeRequest m r (doRequest m r) s)
    unfold takeRequest
    split
    · split
      · exact h.reports (report_same _ s)
      · split
        · exact doRequest_keeps m r s
        · exact h.respond _ _ _ _
    · exact h

theorem acceptFrame_keeps (f : DownFrame) (s : State) :
    Keeps (f.writesBank = false ∨ s.bks.pending.isSome = true) s (acceptFrame f (actDown f) s) := by
  have h : Keeps (f.writesBank = false ∨ s.bks.pending.isSome = true) s s := .refl s
  have ended := h.setCiu (endReceptionU s).ciu
  have acted := actDown_keeps f (endReceptionU s)
  have done : Keeps (f.writesBank = false ∨ s.bks.pending.isSome = true) s (actDown f (endReceptionU s)) :=
    ⟨acted.now, acted.pins, acted.pending, acted.freeIndex, acted.banks⟩
  unfold acceptFrame
  split
  · split
    · exact done.passOn f
    · exact ended.setCiu _
  · exact h

/-- The events of the legs, the monitors and the channels that no frame brings, and those of the schedule. -/
theorem exec_timed_keeps {c : Instr} {s t : State} (ht : exec c s = .next t) (hc : c ∈ timedCommands) :
    Keeps True s t := by
  have h : Keeps True s s := .refl s
  simp only [timedCommands, List.mem_append, List.mem_flatMap, List.mem_singleton, mem_allLegs, mem_allChans,
    mem_allStrobes, mem_allSwitches, true_and, Prod.exists] at hc
  rcases hc with ((((rfl | rfl) | ⟨x, rfl⟩) | ⟨l, ((rfl | rfl) | rfl) | rfl⟩) | ⟨l, sw, rfl | rfl⟩) | ⟨n, rfl | rfl⟩
  · simp only [exec, execWindowClose, Host.Outcome.next.injEq] at ht
    subst ht
    split
    · cases s.ncu.state with
      | unaddressed => exact h
      | standby => exact h
      | syncing => exact h.windowClosed.1
      | running => exact h.windowClosed.2
      | halted => exact h
    · exact h
  · simp only [exec, execScheduleTake, Host.Outcome.next.injEq] at ht
    subst ht
    split
    · exact (h.setEsu _).outside (takeEntries_outside _ _)
    · exact h
  · simp only [exec, execPulseEnd, Host.Outcome.next.injEq] at ht
    subst ht
    split
    · exact h.setEsu _
    · exact h
  · simp only [exec, execGapEnd, Host.Outcome.next.injEq] at ht
    subst ht
    split
    · split
      · exact (h.setLge _).legs (judgeLeg_same l _)
      · exact h
    · exact h
  · simp only [exec, execMinOnEnd, Host.Outcome.next.injEq] at ht
    subst ht
    split
    · split
      · split
        · exact h.setLge _
        · exact (h.setLge _).legs (requestLeg_same l _ _)
      · exact h
    · exact h
  · simp only [exec, execMaxOnEnd, Host.Outcome.next.injEq] at ht
    subst ht
    split
    · split
      · have ended (b : RecBody) := (h.legs (putLeg_same l (Leg.offAt s.now .off) s)).reports (report_same b _)
        split
        · exact ended _
        · exact (ended _).legs (addCause_same l _ _ _)
      · exact h
    · exact h
  · simp only [exec, execSettleEnd, Host.Outcome.next.injEq] at ht
    subst ht
    split
    · split
      · exact (h.setLge _).legs (judgeLeg_same l _)
      · exact h
    · exact h
  · simp only [exec, execWatchDeadline, Host.Outcome.next.injEq] at ht
    subst ht
    split
    · split
      · exact h.outside (failWatch_outside l sw _ s)
      · exact h
    · exact h
  · simp only [exec, execFilterEnd, Host.Outcome.next.injEq] at ht
    subst ht
    split
    · split
      · exact h.outside (disagree_outside l sw s)
      · exact h
    · exact h
  · simp only [exec, execQualifyDeadline, Host.Outcome.next.injEq] at ht
    subst ht
    split
    · split
      · exact h.outside (tripChannel_outside n _ s)
      · exact h
    · exact h
  · simp only [exec, execRelease, Host.Outcome.next.injEq] at ht
    subst ht
    split
    · split
      · exact h.outside (releaseChannel_outside n _ s)
      · exact h
    · exact h

/-- The commands that can write a bank: those whose frame does, and bytes that can be such a frame's (log 15). -/
def Instr.writesBank : Instr → Bool
  | .write _ _ _ _ => true
  | .copy _ => true
  | .uFrameDiscarded _ => true
  | _ => false

theorem writesBank_of_downFrame {c : Instr} {f : DownFrame} (hf : c.downFrame = some f) :
    f.writesBank = Instr.writesBank c := by
  cases c <;> simp only [Instr.downFrame, Option.some.injEq, reduceCtorEq] at hf <;> subst hf <;> rfl

/-- A command other than HARD_RESET and the inputs' changes keeps node time, the pins and the queue, and the banks'
contents where it cannot write them or a commit is pending. -/
theorem exec_keeps {c : Instr} {s t : State} (ht : exec c s = .next t) (hreset : c ≠ .hardReset)
    (hfb : ∀ l sw v, c ≠ .feedbackInputChange l sw v) (hfault : ∀ n, c ≠ .faultAssertion n ∧ c ≠ .faultDeassertion n) :
    Keeps (Instr.writesBank c = false ∨ s.bks.pending.isSome = true) s t := by
  have weaken {u : State} (h : Keeps True s u) : Keeps (Instr.writesBank c = false ∨ s.bks.pending.isSome = true) s u :=
    ⟨h.now, h.pins, h.pending, h.freeIndex, fun _ => h.banks trivial⟩
  have h : Keeps True s s := .refl s
  cases hf : c.downFrame with
  | some f =>
    rw [exec_of_downFrame hf, Host.Outcome.next.injEq] at ht
    rw [← writesBank_of_downFrame hf, ← ht]
    exact acceptFrame_keeps f s
  | none =>
    by_cases htimed : c ∈ timedCommands
    · exact weaken (exec_timed_keeps ht htimed)
    · cases c with
      | uFrameDiscarded bytes =>
        simp only [exec, execUFrameDiscarded, Host.Outcome.next.injEq] at ht
        subst ht
        unfold receiveU
        cases hear bytes with
        | bad =>
          dsimp only
          refine weaken ?_
          split
          · exact (h.setCiu _).setCiu _
          · exact h
        | up f =>
          dsimp only
          refine weaken ?_
          split
          · exact (h.setCiu _).setCiu _
          · exact h
        | down f =>
          have kept := acceptFrame_keeps f s
          exact ⟨kept.now, kept.pins, kept.pending, kept.freeIndex,
            fun hb => kept.banks (hb.elim (fun hw => Bool.noConfusion hw) .inr)⟩
      | returnFrameReceived bytes =>
        simp only [exec, execReturnFrameReceived, Host.Outcome.next.injEq] at ht
        subst ht
        exact weaken (h.receiveD bytes)
      | dTransmitEnd =>
        simp only [exec, execDTransmitEnd, endTransmitD, Host.Outcome.next.injEq] at ht
        subst ht
        refine weaken ?_
        split
        · exact h.setCiu _
        · exact h
      | uTransmitEnd =>
        simp only [exec, execUTransmitEnd, endTransmitU, Host.Outcome.next.injEq] at ht
        subst ht
        refine weaken ?_
        split
        · exact h.setCiu _
        · exact h
      | dPartnerLost =>
        simp only [exec, execDPartnerLost, loseD, Host.Outcome.next.injEq] at ht
        subst ht
        refine weaken ?_
        split
        · exact (h.setCiu _).setCiu _
        · exact h
      | uPartnerLost =>
        simp only [exec, execUPartnerLost, loseU, Host.Outcome.next.injEq] at ht
        subst ht
        refine weaken ?_
        split
        · exact (h.setCiu _).setCiu _
        · exact h
      | dPartnerGained =>
        simp only [exec, execDPartnerGained, Host.Outcome.next.injEq] at ht
        subst ht
        exact weaken (h.setCiu _)
      | uPartnerGained =>
        simp only [exec, execUPartnerGained, Host.Outcome.next.injEq] at ht
        subst ht
        exact weaken (h.setCiu _)
      | frameReceptionBegins p =>
        simp only [exec, execFrameReceptionBegins, beginReception, Host.Outcome.next.injEq] at ht
        subst ht
        refine weaken ?_
        cases p with
        | u =>
          dsimp only
          split
          · exact h.setCiu _
          · exact h
        | d =>
          dsimp only
          split
          · exact h.setCiu _
          · exact h
      | hardReset => exact absurd rfl hreset
      | feedbackInputChange l sw v => exact absurd rfl (hfb l sw v)
      | faultAssertion n => exact absurd rfl (hfault n).1
      | faultDeassertion n => exact absurd rfl (hfault n).2
      | windowClose | scheduleTake | pulseEnd | gapEnd | minOnEnd | maxOnEnd | settleEnd | watchDeadline | filterEnd
      | qualifyDeadline | release => simp [timedCommands] at htimed
      | enum | cycle | echo | status | counters | read | write | copy | commitImmediate | commitTargeted | cancel | arm
      | disarm | clear | resume | flush | restart | unknown => simp [Instr.downFrame] at hf

/-- An input's change keeps all but the pins, of which it changes its own kind alone (log 4). -/
theorem exec_input_keeps (l : LegId) (sw : Switch) (v : Level) (n : ChanId) (s : State) :
    (∀ t, exec (.feedbackInputChange l sw v) s = .next t → Keeps True s (t.setPins s.pins) ∧ t.pins.fault = s.pins.fault) ∧
      (∀ t, exec (.faultAssertion n) s = .next t →
        Keeps True s (t.setPins s.pins) ∧ t.pins.feedback = s.pins.feedback) ∧
      ∀ t, exec (.faultDeassertion n) s = .next t →
        Keeps True s (t.setPins s.pins) ∧ t.pins.feedback = s.pins.feedback := by
  have same : Keeps True s (s.setPins s.pins) := .refl s
  have pinned {t : State} (x : Pins) (h : SameOutside (s.setPins x) t) : Keeps True s (t.setPins s.pins) ∧ t.pins = x :=
    ⟨⟨h.now, rfl, h.pending, h.freeIndex, fun _ => ⟨h.bankA, h.bankB⟩⟩, h.pins⟩
  have asserts (t : State) : SameOutside t (channelAsserts n t) := by
    unfold channelAsserts
    split
    · exact takeAssertion_outside n t
    · exact .refl t
    · exact .refl t
    · exact .setPru _ t
  have deasserts (t : State) : SameOutside t (channelDeasserts n t) := by
    unfold channelDeasserts deassertActive
    split
    · exact .refl t
    · exact glitch_outside n _ _ t
    · split
      · exact .setPru _ t
      · exact .setPru _ t
    · exact .refl t
  refine ⟨fun t ht => ?_, fun t ht => ?_, fun t ht => ?_⟩
  · simp only [exec, execFeedbackInputChange, Host.Outcome.next.injEq] at ht
    subst ht
    split
    · exact ⟨same, rfl⟩
    · obtain ⟨kept, pins⟩ := pinned _ (observe_outside l sw true (s.setFeedbackPin l sw v))
      exact ⟨kept, by rw [pins]⟩
  · simp only [exec, execFaultAssertion, Host.Outcome.next.injEq] at ht
    subst ht
    split
    · exact ⟨same, rfl⟩
    · split
      · obtain ⟨kept, pins⟩ := pinned _ (asserts (s.setFaultPin n (s.protParams n).assertLevel))
        exact ⟨kept, by rw [pins]⟩
      · exact ⟨same, rfl⟩
  · simp only [exec, execFaultDeassertion, Host.Outcome.next.injEq] at ht
    subst ht
    split
    · obtain ⟨kept, pins⟩ := pinned _ (deasserts (s.setFaultPin n (otherLevel (s.protParams n).assertLevel)))
      exact ⟨kept, by rw [pins]⟩
    · exact ⟨same, rfl⟩

/-- Settles O4: HARD_RESET and the inputs' changes by their own rules, every other command by `exec_keeps`. -/
theorem commandsKeepTimePinsAndBanks : Obligations.CommandsKeepTimePinsAndBanks := by
  intro c s t ht
  have plain (h : Keeps True s (t.setPins s.pins)) : t.pending = s.pending ∧ t.freeIndex = s.freeIndex ∧
      t.now = s.now ∧ t.bks.bankA = s.bks.bankA ∧ t.bks.bankB = s.bks.bankB :=
    ⟨h.pending, h.freeIndex, h.now, h.banks trivial⟩
  by_cases hreset : c = .hardReset
  · subst hreset
    simp only [exec, execHardReset, Host.Outcome.next.injEq] at ht
    subst ht
    exact ⟨rfl, rfl, fun h => absurd rfl h, fun _ => rfl, fun _ => rfl, fun h => absurd rfl h, fun h => absurd rfl h⟩
  · by_cases hfb : ∃ l sw v, c = .feedbackInputChange l sw v
    · obtain ⟨l, sw, v, rfl⟩ := hfb
      obtain ⟨kept, fault⟩ := (exec_input_keeps l sw v .c0 s).1 t ht
      obtain ⟨hp, hi, hn, hb⟩ := plain kept
      exact ⟨hp, hi, fun _ => hn, fun h => absurd rfl (h l sw v), fun _ => fault, fun _ _ _ _ => hb, fun _ _ => hb⟩
    · by_cases hfault : ∃ n, c = .faultAssertion n ∨ c = .faultDeassertion n
      · obtain ⟨n, hc⟩ := hfault
        have both : Keeps True s (t.setPins s.pins) ∧ t.pins.feedback = s.pins.feedback := by
          rcases hc with rfl | rfl
          · exact (exec_input_keeps .l0 .upper .low n s).2.1 t ht
          · exact (exec_input_keeps .l0 .upper .low n s).2.2 t ht
        obtain ⟨kept, feedback⟩ := both
        obtain ⟨hp, hi, hn, hb⟩ := plain kept
        exact ⟨hp, hi, fun _ => hn, fun _ => feedback, fun h => absurd hc (not_or.2 (h n)), fun _ _ _ _ => hb, fun _ _ => hb⟩
      · simp only [not_exists, not_or] at hfb hfault
        have kept := exec_keeps ht hreset hfb hfault
        refine ⟨kept.pending, kept.freeIndex, fun _ => kept.now, fun _ => by rw [kept.pins], fun _ => by rw [kept.pins],
          fun _ hw hcopy hu => kept.banks (.inl ?_), fun _ hp => kept.banks (.inr hp)⟩
        unfold Instr.writesBank
        split
        · exact absurd rfl (hw _ _ _ _)
        · exact absurd rfl (hcopy _)
        · exact absurd rfl (hu _)
        · rfl

end Sys2Proof.Machine
end

section
/-! PROOF. The interlock (R21, R23): no leg drives both outputs, and an output that a step turns on was waited for to its
end, or stands in a leg whose dead time is over. The condition `LegsInTime` says of each leg, within a step from `s₀`, that
every output on and every wait found over is so for one of these reasons. -/

namespace Sys2Proof.Machine

/-! ### Legs in time -/

/-- The leg waits for switch `sw` with an end that has been found reached. -/
def LegCond.awaits (c : LegCond) (sw : Switch) : Bool :=
  match c with
  | .gap p _ true => decide (p = sw)
  | .safe _ (.settling _ true) (some k) => decide (k = sw)
  | _ => false

/-- Every output that is on is so by `before`, or its wait was over by `waited`, or its dead time is over; every wait found
over is so by `waited`, or the dead time is over. -/
def InTime (before waited : Switch → Prop) (p : LegRecord) (now : Time) (x : Leg) : Prop :=
  ∀ sw, (x.cond.drives sw = true → before sw ∨ waited sw ∨ sumReached now x (deadOf p sw) = true) ∧
    (x.cond.awaits sw = true → waited sw ∨ sumReached now x (deadOf p sw) = true)

/-- Every leg is in time for the step that began in `s₀`. -/
def LegsInTime (s₀ s : State) : Prop :=
  ∀ l, InTime (fun sw => s₀.commanded l sw = true) (fun sw => WaitsReached l sw s₀) (s.legParams l) s.now (s.leg l)

section
variable {before waited : Switch → Prop} {p : LegRecord} {now : Time} {x : Leg}

theorem inTime_of_quiet (hd : ∀ sw, x.cond.drives sw = false) (ha : ∀ sw, x.cond.awaits sw = false) :
    InTime before waited p now x := fun sw =>
  ⟨fun h => absurd h (by simp [hd sw]), fun h => absurd h (by simp [ha sw])⟩

/-- A record with the same LAST-OFF and mark whose outputs and waits are among those of a leg in time. -/
theorem InTime.mono {y : Leg} (h : InTime before waited p now x) (hoff : y.lastOff = x.lastOff)
    (hrest : y.rested = x.rested) (hd : ∀ sw, y.cond.drives sw = true → x.cond.drives sw = true)
    (ha : ∀ sw, y.cond.awaits sw = true → x.cond.awaits sw = true) : InTime before waited p now y := by
  have hsum (d : Time) : sumReached now y d = sumReached now x d := by rw [sumReached, sumReached, hoff, hrest]
  intro sw
  rw [hsum]
  exact ⟨fun hy => (h sw).1 (hd sw hy), fun hy => (h sw).2 (ha sw hy)⟩

theorem inTime_off (now' : Time) : InTime before waited p now (Leg.offAt now' .off) :=
  inTime_of_quiet (fun _ => rfl) fun _ => rfl

theorem inTime_heldOrOff (h : ChanSet) (a : Time) (r : Bool) :
    InTime before waited p now { cond := heldOrOff h, lastOff := a, rested := r } := by
  unfold heldOrOff
  split
  · exact inTime_of_quiet (fun _ => rfl) fun _ => rfl
  · exact inTime_of_quiet (fun _ => rfl) fun _ => rfl

/-- A gap is found over at once only when the dead time is (R28). -/
theorem inTime_gapToward (sw : Switch) : InTime before waited p now (gapToward p sw now x) := by
  refine fun k => ⟨fun h => Bool.noConfusion h, fun h => .inr ?_⟩
  cases hr : sumReached now x (deadOf p sw) with
  | false => simp [gapToward, LegCond.awaits, hr] at h
  | true =>
    simp only [gapToward, LegCond.awaits, hr, decide_eq_true_eq] at h
    subst h
    exact hr

/-- A leg that enters SAFE keeps an output on only where it was on, and settles over only when the dead time is (R42). -/
theorem inTime_safeEntry (cs : Causes) (k : Option Switch) (b : Bool) (h : InTime before waited p now x) :
    InTime before waited p now (safeEntry p now cs k b x) := by
  have settled (y : Leg) (sw : Switch) : InTime before waited p now
      { y with cond := .safe cs (.settling (y.lastOff + deadOf p sw) (sumReached now y (deadOf p sw))) (some sw) } := by
    refine fun j => ⟨fun hd => Bool.noConfusion hd, fun ha => .inr ?_⟩
    cases hr : sumReached now y (deadOf p sw) with
    | false => simp [LegCond.awaits, hr] at ha
    | true =>
      simp only [LegCond.awaits, hr, decide_eq_true_eq] at ha
      subst ha
      exact hr
  have opened (hk : b = true ∨ k = none) : InTime before waited p now (safeEntry p now cs k b x) := by
    rw [safeEntry_opened p now cs x hk]
    exact inTime_of_quiet (fun _ => rfl) fun _ => rfl
  cases b with
  | true => exact opened (.inl rfl)
  | false =>
    cases k with
    | none => exact opened (.inr rfl)
    | some sw =>
      by_cases hs : x.cond.side = some sw
      · rw [safeEntry_clamped p now cs x hs]
        refine h.mono rfl rfl (fun j hj => ?_) fun j hj => Bool.noConfusion hj
        have hj : sw = j := by simpa [LegCond.drives] using hj
        subst hj
        cases hc : x.cond <;> simp_all [LegCond.side, LegCond.drives]
      · rw [safeEntry_settling p now cs x hs]
        exact settled _ sw

end

/-! ### What each operation makes of its leg -/

section
variable {before waited : Switch → Prop} {l : LegId} {s : State}

theorem inTime_judgeLeg (h : InTime before waited (s.legParams l) s.now (s.leg l)) :
    InTime before waited (s.legParams l) s.now ((judgeLeg l s).leg l) := by
  -- a turned-on switch was waited for
  have turned {c : LegCond} {sw : Switch} (ha : (s.leg l).cond.awaits sw = true) (hd : ∀ k, c.drives k = true → sw = k)
      (hw : ∀ k, c.awaits k = false) : InTime before waited (s.legParams l) s.now { s.leg l with cond := c } := by
    refine fun k => ⟨fun hk => .inr ?_, fun hk => absurd hk (by simp [hw k])⟩
    rw [← hd k hk]
    exact (h sw).2 ha
  unfold judgeLeg
  dsimp only
  split
  · next sw e hc =>
    split
    · rw [leg_putLeg_same]
      exact turned (sw := sw) (by simp [hc, LegCond.awaits]) (fun k hk => by simpa [onCond, LegCond.drives] using hk)
        fun _ => rfl
    · exact h
  · next cs e sw hc =>
    split
    · rw [leg_putLeg_same]
      exact turned (sw := sw) (by simp [hc, LegCond.awaits]) (fun k hk => by simpa [LegCond.drives] using hk)
        fun _ => rfl
    · exact h
  · exact h

theorem inTime_judgeLeg_putLeg (x : Leg) (h : InTime before waited (s.legParams l) s.now x) :
    InTime before waited (s.legParams l) s.now ((judgeLeg l (putLeg l x s)).leg l) := by
  have same := putLeg_same l x s
  have judged := inTime_judgeLeg (before := before) (waited := waited) (l := l) (s := putLeg l x s)
    (by rw [same.legParams, same.now, leg_putLeg_same]; exact h)
  rwa [same.legParams, same.now] at judged

theorem inTime_suppressClamp (h : InTime before waited (s.legParams l) s.now (s.leg l)) :
    InTime before waited (s.legParams l) s.now ((suppressClamp l s).leg l) := by
  unfold suppressClamp
  split
  · rw [leg_putLeg_same]; exact inTime_of_quiet (fun _ => rfl) fun _ => rfl
  · rw [leg_setLeg_same]; exact inTime_of_quiet (fun _ => rfl) fun _ => rfl
  · exact h

theorem drives_safe_causes (cs ds : Causes) (ph : SafePhase) (k : Option Switch) (sw : Switch) :
    (LegCond.safe ds ph k).drives sw = (LegCond.safe cs ph k).drives sw := by
  cases k <;> cases ph <;> rfl

theorem awaits_safe_causes (cs ds : Causes) (ph : SafePhase) (k : Option Switch) (sw : Switch) :
    (LegCond.safe ds ph k).awaits sw = (LegCond.safe cs ph k).awaits sw := by
  cases k <;> cases ph with
  | settling _ r => cases r <;> rfl
  | _ => rfl

/-- Other causes leave outputs and waits as they are. -/
theorem InTime.setCausesOf {p : LegRecord} {now : Time} {x : Leg} {cs ds : Causes} {ph : SafePhase} {k : Option Switch}
    (h : InTime before waited p now x) (hc : x.cond = .safe cs ph k) :
    InTime before waited p now { x with cond := .safe ds ph k } := by
  refine h.mono rfl rfl (fun sw hd => ?_) fun sw ha => ?_
  · rw [hc]; exact drives_safe_causes cs ds ph k sw ▸ hd
  · rw [hc]; exact awaits_safe_causes cs ds ph k sw ▸ ha

theorem inTime_addCause (x : LegCause) (b : Bool) (h : InTime before waited (s.legParams l) s.now (s.leg l)) :
    InTime before waited (s.legParams l) s.now ((addCause l x b s).leg l) := by
  unfold addCause
  split
  · split
    · next hc =>
      dsimp only
      split
      · exact inTime_suppressClamp (s := s.setLeg l _) (by rw [leg_setLeg_same]; exact h.setCausesOf hc)
      · rw [leg_setLeg_same]; exact h.setCausesOf hc
    · exact inTime_judgeLeg_putLeg _ (inTime_safeEntry _ _ _ h)
  · exact h

theorem inTime_setCauses (cs : Causes) (h : InTime before waited (s.legParams l) s.now (s.leg l)) :
    InTime before waited (s.legParams l) s.now ((setCauses l cs s).leg l) := by
  unfold setCauses
  split
  · next hc =>
    split
    · rw [leg_putLeg_same]; exact inTime_heldOrOff _ _ _
    · rw [leg_setLeg_same]; exact h.setCausesOf hc
  · exact h

theorem inTime_forceLeg (n : ChanId) (h : InTime before waited (s.legParams l) s.now (s.leg l)) :
    InTime before waited (s.legParams l) s.now ((forceLeg n l s).leg l) := by
  have held (g : ChanSet) : InTime before waited (s.legParams l) s.now (Leg.offAt s.now (.heldOff g)) :=
    inTime_of_quiet (fun _ => rfl) fun _ => rfl
  unfold forceLeg
  split
  · cases hc : (s.leg l).cond with
    | safe a b c => exact h
    | heldOff g => dsimp only; rw [leg_setLeg_same]; exact held _
    | off => dsimp only; rw [leg_setLeg_same]; exact held _
    | gap p e r => dsimp only; rw [leg_setLeg_same]; exact held _
    | on a b c d e => dsimp only; rw [leg_putLeg_same]; exact held _
  · exact h

theorem inTime_withdrawLeg (n : ChanId) (h : InTime before waited (s.legParams l) s.now (s.leg l)) :
    InTime before waited (s.legParams l) s.now ((withdrawLeg n l s).leg l) := by
  unfold withdrawLeg
  split
  · split
    · rw [leg_setLeg_same]; exact inTime_heldOrOff _ _ _
    · exact h
  · exact h

theorem inTime_stopLeg (h : InTime before waited (s.legParams l) s.now (s.leg l)) :
    InTime before waited (s.legParams l) s.now ((stopLeg l s).leg l) := by
  unfold stopLeg
  split
  · rw [leg_putLeg_same]; exact inTime_off _
  · rw [leg_setLeg_same]; exact inTime_of_quiet (fun _ => rfl) fun _ => rfl
  · exact h

theorem inTime_requestTurnOn (sw : Switch) :
    InTime before waited (s.legParams l) s.now ((requestTurnOn l sw s).leg l) := by
  unfold requestTurnOn
  exact inTime_judgeLeg (s := s.setLeg l _) (by rw [leg_setLeg_same]; exact inTime_gapToward sw)

theorem inTime_requestLeg (t : Target) (h : InTime before waited (s.legParams l) s.now (s.leg l)) :
    InTime before waited (s.legParams l) s.now ((requestLeg l t s).leg l) := by
  unfold requestLeg
  split
  · exact h
  · cases hc : (s.leg l).cond with
    | heldOff g => exact h
    | safe a b c => exact h
    | off =>
      dsimp only
      split
      · exact h
      · exact inTime_requestTurnOn _
    | gap p e r =>
      dsimp only
      split
      · rw [leg_setLeg_same]; exact inTime_of_quiet (fun _ => rfl) fun _ => rfl
      · exact inTime_requestTurnOn _
    | on side a m b d =>
      cases m with
      | none =>
        show InTime _ _ _ _ ((requestElapsed l side t s).leg l)
        unfold requestElapsed
        split
        · rw [leg_putLeg_same]; exact inTime_off _
        · split
          · exact h
          · exact inTime_judgeLeg_putLeg _ (inTime_gapToward _)
      | some e =>
        show InTime _ _ _ _ ((requestDeferred l side a e b d t s).leg l)
        unfold requestDeferred
        dsimp only
        rw [leg_setLeg_same]
        exact h.mono rfl rfl (fun sw hd => by rw [hc]; exact hd) fun sw ha => Bool.noConfusion ha

/-- A swap's effect on a leg turns no output on and finds no wait over (R140 to R142). -/
theorem swapLeg_onlyStops (old : Bank) (l : LegId) (s : State) (sw : Switch) :
    (((swapLeg old l s).leg l).cond.drives sw = true → (s.leg l).cond.drives sw = true) ∧
      (((swapLeg old l s).leg l).cond.awaits sw = true → (s.leg l).cond.awaits sw = true) := by
  have dropped (c : LegCond) : c.dropDeferred.drives sw = c.drives sw ∧ c.dropDeferred.awaits sw = c.awaits sw := by
    cases c <;> exact ⟨rfl, rfl⟩
  have silent {x : Leg} {c : LegCond} (hd : x.cond.drives sw = false) (ha : x.cond.awaits sw = false) :
      (x.cond.drives sw = true → c.drives sw = true) ∧ (x.cond.awaits sw = true → c.awaits sw = true) :=
    ⟨fun h => absurd h (by simp [hd]), fun h => absurd h (by simp [ha])⟩
  have disable : (((swapDisableLeg l s).leg l).cond.drives sw = true → (s.leg l).cond.drives sw = true) ∧
      (((swapDisableLeg l s).leg l).cond.awaits sw = true → (s.leg l).cond.awaits sw = true) := by
    unfold swapDisableLeg
    split
    · rw [leg_putLeg_same]; exact silent rfl rfl
    · rw [leg_setLeg_same]; exact silent rfl rfl
  have suppressed (t : State) (ht : t.leg l = s.leg l) :
      (((suppressClamp l t).leg l).cond.drives sw = true → (s.leg l).cond.drives sw = true) ∧
        (((suppressClamp l t).leg l).cond.awaits sw = true → (s.leg l).cond.awaits sw = true) := by
    unfold suppressClamp
    split
    · rw [leg_putLeg_same]; exact silent rfl rfl
    · rw [leg_setLeg_same]; exact silent rfl rfl
    · rw [ht]; exact ⟨id, id⟩
  have single : (((swapToSingle l s).leg l).cond.drives sw = true → (s.leg l).cond.drives sw = true) ∧
      (((swapToSingle l s).leg l).cond.awaits sw = true → (s.leg l).cond.awaits sw = true) := by
    unfold swapToSingle
    dsimp only
    split
    · rw [leg_putLeg_same]; exact silent rfl rfl
    · rw [leg_setLeg_same]; exact silent rfl rfl
    · exact suppressed _ rfl
    · rw [leg_setLeg_same]
      show ((s.leg l).cond.dropDeferred.drives sw = true → _) ∧ ((s.leg l).cond.dropDeferred.awaits sw = true → _)
      rw [(dropped _).1, (dropped _).2]
      exact ⟨id, id⟩
  unfold swapLeg
  split
  · exact ⟨id, id⟩
  · unfold swapEnableLeg
    rw [leg_setLeg_same]; exact ⟨id, id⟩
  · unfold swapEnableLeg
    rw [leg_setLeg_same]; exact ⟨id, id⟩
  · exact disable
  · exact ⟨id, id⟩
  · exact single
  · exact disable
  · unfold swapToComplementary
    rw [leg_setLeg_same, (dropped _).1, (dropped _).2]
    exact ⟨id, id⟩
  · exact ⟨id, id⟩

end

/-! ### All legs, within a step -/

section
variable {s₀ s t : State}

/-- The condition looks at the legs, their parameters and node time. -/
theorem legsInTime_of_eq (h : LegsInTime s₀ s) (hl : ∀ l, t.leg l = s.leg l) (hb : t.activeBank = s.activeBank)
    (hn : t.now = s.now) : LegsInTime s₀ t := fun l => by
  rw [hl, hn, State.legParams, hb]
  exact h l

theorem legsInTime_of_blocks (h : LegsInTime s₀ s) (hl : t.lge.legs = s.lge.legs) (hb : t.bks = s.bks) (hc : t.ctu = s.ctu) :
    LegsInTime s₀ t :=
  legsInTime_of_eq h (fun l => by rw [State.leg, State.leg, hl]) (by rw [State.activeBank, State.activeBank, hb])
    (now_of_ctu hc)

theorem legsInTime_of_frame {l : LegId} (h : LegsInTime s₀ s) (frame : LegFrame l s t)
    (here : InTime (fun sw => s₀.commanded l sw = true) (fun sw => WaitsReached l sw s₀) (s.legParams l) s.now (t.leg l)) :
    LegsInTime s₀ t := fun k => by
  rw [frame.blocks.legParams, frame.blocks.now]
  by_cases hk : k = l
  · subst hk; exact here
  · rw [frame.legs k hk]; exact h k

/-- What is on, or waited for to its end, before the first event of the step. -/
theorem waitsReached_of_awaits {l : LegId} {sw : Switch} (h : (s.leg l).cond.awaits sw = true) : WaitsReached l sw s := by
  unfold LegCond.awaits at h
  split at h
  · next p e hc =>
    have hp : p = sw := by simpa using h
    subst hp
    exact .inl ⟨e, true, hc, .inl rfl⟩
  · next cs e k hc =>
    have hk : k = sw := by simpa using h
    subst hk
    exact .inr ⟨cs, e, true, hc, .inl rfl⟩
  · exact absurd h (by simp)

/-- Legs whose outputs and waits are among those before the step are in time. -/
theorem legsInTime_of_before
    (h : ∀ l sw, ((t.leg l).cond.drives sw = true → (s₀.leg l).cond.drives sw = true) ∧
      ((t.leg l).cond.awaits sw = true → (s₀.leg l).cond.awaits sw = true)) : LegsInTime s₀ t := fun l sw =>
  ⟨fun hd => .inl ((h l sw).1 hd), fun ha => .inl (waitsReached_of_awaits ((h l sw).2 ha))⟩

/-- Every block's changes within a step keep the legs in time: `Q` is that the legs and node time are those before the
step. -/
theorem blocksKept_legsInTime (s₀ : State) :
    BlocksKept (fun s => s.lge.legs = s₀.lge.legs ∧ s.now = s₀.now) (LegsInTime s₀) where
  judge l s h := legsInTime_of_frame h (.judgeLeg l s) (inTime_judgeLeg (h l))
  cause l x b s h := legsInTime_of_frame h (.addCause l x b s) (inTime_addCause x b (h l))
  request l t s h := legsInTime_of_frame h (.requestLeg l t s) (inTime_requestLeg t (h l))
  force n l s h := legsInTime_of_frame h (.forceLeg n l s) (inTime_forceLeg n (h l))
  withdraw n l s h := legsInTime_of_frame h (.withdrawLeg n l s) (inTime_withdrawLeg n (h l))
  causes l cs s h := legsInTime_of_frame h (.setCauses l cs s) (inTime_setCauses cs (h l))
  suppress l s h := legsInTime_of_frame h (.suppressClamp l s) (inTime_suppressClamp (h l))
  stop l s h := legsInTime_of_frame h (.stopLeg l s) (inTime_stopLeg (h l))
  turnOff l s h := legsInTime_of_frame h (.putLeg l _ s) (by rw [leg_putLeg_same]; exact inTime_off _)
  minOnEnd l side a e m d s hc h := legsInTime_of_frame h (.setLeg l _ s) (by
    rw [leg_setLeg_same]
    exact (h l).mono rfl rfl (fun sw hd => by rw [hc]; exact hd) fun sw ha => Bool.noConfusion ha)
  feedback _ _ h := h
  countLegs _ _ h := h
  monitor _ _ _ _ h := h
  idle _ h := h
  record b s _ h := legsInTime_of_blocks h (by rw [lge_report]) (by simp) (by simp)
  capture l sw d c s h :=
    have same := captureEdge_same l sw d c s
    legsInTime_of_blocks h (by rw [same.lge]) same.bks same.ctu
  ctu x s hx h := legsInTime_of_eq (t := s.setCtu x) h (fun _ => rfl) rfl hx
  ncu _ _ h := h
  pulses _ _ h := h
  countEntries _ _ h := h
  schedule _ _ _ h := h
  cancel _ h := h
  begins s h := legsInTime_of_before fun l sw => by
    rw [State.leg, h.1]
    exact ⟨id, id⟩
  beginPending _ _ h := h
  beginCiu _ h := h
  beginCtu x s hx h := ⟨h.1, hx.trans h.2⟩
  beginRecord b s _ h := ⟨by rw [lge_report]; exact h.1, (now_of_ctu (ctu_report b s)).trans h.2⟩
  beginNcu _ _ h := h
  ciu _ _ _ _ h := h
  rpu _ _ _ _ h := h
  send _ _ _ _ h := h
  mgu _ _ h := h
  pru _ _ h := h
  pins _ _ h := h
  decode c n p i e s _ h :=
    legsInTime_of_blocks h (by rw [lge_decodeEntry]) (bks_decodeEntry c n p i e s) (ctu_decodeEntry c n p i e s)
  gapEnd l sw e s hc hr h := by
    have before : LegsInTime s₀ s := legsInTime_of_before fun l sw => by rw [State.leg, h.1]; exact ⟨id, id⟩
    have hleg : s₀.leg l = s.leg l := by rw [State.leg, State.leg, h.1]
    refine legsInTime_of_frame before (.setLeg l _ s) ?_
    rw [leg_setLeg_same]
    refine fun k => ⟨fun hd => Bool.noConfusion hd, fun ha => .inl (.inl ⟨e, false, ?_, .inr (h.2 ▸ hr)⟩)⟩
    have hk : sw = k := by simpa [LegCond.awaits] using ha
    rw [hleg, hc, hk]
  settleEnd l cs e k s hc hr h := by
    have before : LegsInTime s₀ s := legsInTime_of_before fun l sw => by rw [State.leg, h.1]; exact ⟨id, id⟩
    have hleg : s₀.leg l = s.leg l := by rw [State.leg, State.leg, h.1]
    refine legsInTime_of_frame before (.setLeg l _ s) ?_
    rw [leg_setLeg_same]
    refine fun j => ⟨fun hd => Bool.noConfusion hd, fun ha => .inl (.inr ⟨cs, e, false, ?_, .inr (h.2 ▸ hr)⟩)⟩
    have hk : k = some j := by
      cases k with
      | none => exact Bool.noConfusion ha
      | some i => simpa [LegCond.awaits] using ha
    rw [hleg, hc, hk]
  swapLegs f s _ h := legsInTime_of_before fun l sw => by
    obtain ⟨t, -, hleg, -, hafter, -⟩ := forLegs_leg (s := exchangeRecorded f s) (LegFrame.swapLeg s.activeBank) l
    have before : t.leg l = s₀.leg l := by
      rw [hleg, State.leg, exchangeRecorded, lge_report, State.leg, ← h.1]
      rfl
    rw [hafter, ← before]
    exact swapLeg_onlyStops s.activeBank l t sw
  shadow b s _ h := legsInTime_of_eq h (fun _ => rfl) (activeBank_setBks_withShadow b s) rfl
  commit _ _ _ h := h
  renew _ h := h
  hardReset s _ := fun l => by
    have hoff : (hardReset s).leg l = Leg.initial := by cases l <;> rfl
    rw [hoff]
    exact inTime_of_quiet (fun _ => rfl) fun _ => rfl
  tick s _ h := legsInTime_of_before fun l sw => by
    rw [cond_tick, State.leg, h.1]
    exact ⟨id, id⟩
  queue _ _ _ h := h

end

/-- No condition drives both outputs (R21). -/
theorem drives_exclusive (c : LegCond) : ¬(c.drives .upper = true ∧ c.drives .lower = true) := by
  cases c with
  | on side a m e d => cases side <;> simp [LegCond.drives]
  | safe cs ph k =>
    cases ph with
    | clamped =>
      cases k with
      | none => simp [LegCond.drives]
      | some side => cases side <;> simp [LegCond.drives]
    | opened => simp [LegCond.drives]
    | settling e r => simp [LegCond.drives]
  | off => simp [LegCond.drives]
  | gap p e r => simp [LegCond.drives]
  | heldOff h => simp [LegCond.drives]

/-- Settles O13: a step keeps the legs in time. -/
theorem turnOnsFollowTheDeadTime : Obligations.TurnOnsFollowTheDeadTime := by
  refine ⟨fun s l => drives_exclusive _, fun s t l sw hstep hoff hon => ?_⟩
  have late := (blocksKept_legsInTime s).stepKept.step hstep ⟨rfl, rfl⟩ l sw
  rcases late.1 hon with hbefore | hwaited | hover
  · exact absurd hbefore (by simp [hoff])
  · exact .inl hwaited
  · exact .inr (by simpa [DeadTimeOver, sumReached] using hover)

end Sys2Proof.Machine
end

section
/-! PROOF. The chain ports: what a reception, a frame passed on, a frame moved up and the link events do (R156 to R173). -/

namespace Sys2Proof.Machine

/-! ### Receptions that end at U -/

theorem receivingU_of_endsAtU {s : State} (hu : EndsAtU s) : receivingU s = true := by
  obtain ⟨hpartner, hrx⟩ := hu
  simp [receivingU, hpartner, hrx]

/-- A well-formed frame whose reception ends at U is acted on and then passed on (R167). -/
theorem acceptFrame_of_endsAtU {f : DownFrame} {s : State} (act : State → State) (hu : EndsAtU s)
    (hform : f.formOk = true) : acceptFrame f act s = passOn f (act (endReceptionU s)) := by
  rw [acceptFrame, if_pos (receivingU_of_endsAtU hu), if_pos hform]

theorem exec_enum_of_endsAtU {s : State} (hu : EndsAtU s) (h : Byte) :
    exec (.enum h) s = .next (passOn (.enum h) (actEnum h (endReceptionU s))) :=
  congrArg Host.Outcome.next (acceptFrame_of_endsAtU (actEnum h) hu rfl)

theorem exec_cycle_of_endsAtU {s : State} {f : CycleFrame} (hu : EndsAtU s) (hlen : f.entries.length ≤ 64) :
    exec (.cycle f) s = .next (passOn (.cycle f) (takeCycle f (endReceptionU s))) :=
  congrArg Host.Outcome.next (acceptFrame_of_endsAtU (takeCycle f) hu (decide_eq_true hlen))

/-! ### Frames passed on and moved up -/

/-- The frame offered to the downstream buffer is the accepted one, an ENUM with HOP + 1, where 255 stays (R171). -/
theorem forwarded_eq {f g : DownFrame}
    (h : match f with
      | .enum h => g = .enum (if h = 255 then 255 else h + 1)
      | .cycle _ => g = f
      | .manage _ _ => g = f) : f.forwarded = g := by
  cases f <;> exact h.symm

theorem passOn_of_partner {f : DownFrame} {s : State} (hd : s.ciu.dPartner = true) :
    passOn f s = offerDown f.forwarded s := if_pos hd

theorem passOn_of_no_partner {f : DownFrame} {s : State} (hd : s.ciu.dPartner = false) : passOn f s = originate s :=
  if_neg (by simp [hd])

/-- Settles O26, buffer by buffer. -/
theorem framesEnterTheForwardBuffers : Obligations.FramesEnterTheForwardBuffers := by
  refine ⟨⟨fun f g s hd hg => ⟨fun hroom => ?_, fun hfull => ?_⟩, fun f s hd => ?_⟩,
    fun f s => ⟨fun hu => if_pos hu, fun hu hfull => ?_, fun hu hroom => ⟨fun ha => ?_, fun a g t ha hm => ?_⟩⟩⟩
  · rw [passOn_of_partner hd, forwarded_eq hg, offerDown, if_pos hroom]
  · rw [passOn_of_partner hd, offerDown, if_neg (by omega)]
  · rw [passOn_of_no_partner hd]; rfl
  · rw [moveUp, if_neg (by simp [hu]), if_pos hfull]
  · rw [moveUp, if_neg (by simp [hu]), if_neg (by omega), ha]; rfl
  · have hciu : t.ciu = s.ciu := by
      have same := collect_same (payloadLimit - (a.toNat - 1)) s.rpu.queue.length (f.payload.length + 1) s
      rw [mergeFrame, Prod.mk.injEq] at hm
      rw [← hm.2]
      exact same.ciu
    rw [moveUp, if_neg (by simp [hu]), if_neg (by omega), ha]
    simp only [hm, pushUp, hciu]

/-! ### ENUM (R113, R171) -/

/-- A leg in SAFE is brought to phase OPEN, any other is left as it is (R47). -/
theorem leg_openSafeLegs (l : LegId) (s : State) :
    (∀ cs p k, (s.leg l).cond = .safe cs p k → ((openSafeLegs s).leg l).cond = .safe cs .opened k) ∧
      ((s.leg l).cond.isSafe = false → (openSafeLegs s).leg l = s.leg l) := by
  obtain ⟨t, same, hleg, -, hopen, -⟩ := forLegs_leg (s := s) LegFrame.suppressClamp l
  rw [openSafeLegs, hopen, ← hleg]
  refine ⟨fun cs p k hc => ?_, fun hc => ?_⟩
  · cases p <;> simp [suppressClamp, hc, Leg.offAt]
  · unfold suppressClamp
    split
    · next h => simp [h, LegCond.isSafe] at hc
    · next h => simp [h, LegCond.isSafe] at hc
    · rfl

@[simp] theorem legCounters_suppressClamp (l : LegId) (s : State) :
    (suppressClamp l s).lge.counters = s.lge.counters := by
  unfold suppressClamp
  split
  · rw [lge_putLeg]; rfl
  · rfl
  · rfl

@[simp] theorem legCounters_openSafeLegs (s : State) : (openSafeLegs s).lge.counters = s.lge.counters :=
  forLegs_keeps (P := fun t => t.lge.counters = s.lge.counters)
    (fun l t ht => (legCounters_suppressClamp l t).trans ht) rfl

theorem hopAddress_of_le {h : Byte} (hh : h.toNat ≤ 15) : hopAddress h = some (h + 1) := if_pos (by omega)

theorem hopAddress_of_gt {h : Byte} (hh : 15 < h.toNat) : hopAddress h = none := if_neg (by omega)

/-- Settles O27, by the node state. -/
theorem enumAddressesOrChecksTheNode : Obligations.EnumAddressesOrChecksTheNode := by
  refine fun h s hu => ⟨fun hstate => ⟨_, exec_enum_of_endsAtU hu h, ?_⟩, fun hstate => ?_⟩
  · by_cases hh : h.toNat ≤ 15
    · rcases hstate with hn | hn
      · have acted : actEnum h (endReceptionU s) =
            openSafeLegs (((endReceptionU s).setAddress (some (h + 1))).setNcu { s.ncu with state := .standby }) := by
          simp only [actEnum, endReceptionU, State.ncu_setCiu, hn, hopAddress_of_le hh]
        have same := openSafeLegs_same
          (((endReceptionU s).setAddress (some (h + 1))).setNcu { s.ncu with state := .standby })
        have legs := fun l => leg_openSafeLegs l
          (((endReceptionU s).setAddress (some (h + 1))).setNcu { s.ncu with state := .standby })
        rw [acted, if_pos hh, if_pos hh]
        refine ⟨same.ciu, same.ncu, ?_, legCounters_openSafeLegs _, fun hc => ?_, fun _ _ => legs⟩
        · rw [same.ciu, same.ncu]
          exact same
        · rcases hc with hc | hc
          · simp [hn] at hc
          · omega
      · have acted : actEnum h (endReceptionU s) = (endReceptionU s).setAddress (some (h + 1)) := by
          simp only [actEnum, endReceptionU, State.ncu_setCiu, hn, hopAddress_of_le hh]
        rw [acted, if_pos hh, if_pos hh]
        exact ⟨rfl, by rw [← hn]; rfl, .refl _, rfl, fun _ => ⟨rfl, rfl⟩, fun hc => by simp [hn] at hc⟩
    · rcases hstate with hn | hn
      · have acted : actEnum h (endReceptionU s) = (endReceptionU s).setAddress none := by
          simp only [actEnum, endReceptionU, State.ncu_setCiu, hn, hopAddress_of_gt (by omega : 15 < h.toNat)]
        rw [acted, if_neg hh, if_neg hh]
        exact ⟨rfl, by rw [← hn]; rfl, .refl _, rfl, fun _ => ⟨rfl, rfl⟩, fun _ hle => absurd hle hh⟩
      · have acted : actEnum h (endReceptionU s) =
            ((endReceptionU s).setAddress none).setNcu { s.ncu with state := .unaddressed } := by
          simp only [actEnum, endReceptionU, State.ncu_setCiu, hn, hopAddress_of_gt (by omega : 15 < h.toNat)]
        rw [acted, if_neg hh, if_neg hh]
        exact ⟨rfl, rfl, .refl _, rfl, fun _ => ⟨rfl, rfl⟩, fun _ hle => absurd hle hh⟩
  · have acted : actEnum h (endReceptionU s) = checkTopology h (endReceptionU s) := by
      rcases hstate with (hn | hn) | hn <;> simp only [actEnum, endReceptionU, State.ncu_setCiu, hn]
    rw [exec_enum_of_endsAtU hu, acted]
    refine ⟨fun a ha hsame => ?_, fun hdiff => ?_⟩
    · rw [checkTopology, if_pos (by simp [endReceptionU, ha, hsame])]; rfl
    · rw [checkTopology, if_neg]
      · rfl
      · intro heq
        rw [Option.map_eq_some_iff] at heq
        obtain ⟨a, ha, hsame⟩ := heq
        exact hdiff a ha hsame.symm

/-! ### Link events and discarded receptions (R163 to R166) -/

theorem not_isEmpty_tail {α : Type} (xs : List α) : (!xs.tail.isEmpty) = decide (2 ≤ xs.length) := by
  match xs with
  | [] => rfl
  | [_] => rfl
  | _ :: _ :: _ => simp

/-- Settles O28, event by event. -/
theorem linkEventsAndDiscardsChangeTheirPort : Obligations.LinkEventsAndDiscardsChangeTheirPort := by
  refine ⟨fun s => ⟨fun h => ?_, fun h => ?_, fun h => ?_, fun h => ?_, fun _ => rfl, fun _ => rfl, fun h => ?_, fun h => ?_⟩,
    fun bytes s hu => ⟨fun hear => ?_, fun f hear => ?_⟩⟩
  · rw [← not_isEmpty_tail]; exact congrArg Host.Outcome.next (if_pos h)
  · rw [← not_isEmpty_tail]; exact congrArg Host.Outcome.next (if_pos h)
  · exact congrArg Host.Outcome.next (if_pos h)
  · exact congrArg Host.Outcome.next (if_pos h)
  · exact congrArg Host.Outcome.next (if_pos h)
  · exact congrArg Host.Outcome.next (if_pos h)
  · show Host.Outcome.next (receiveU bytes s) = _
    rw [receiveU, hear]
    exact congrArg Host.Outcome.next (if_pos (receivingU_of_endsAtU hu))
  · show Host.Outcome.next (receiveU bytes s) = _
    rw [receiveU, hear]
    exact congrArg Host.Outcome.next (if_pos (receivingU_of_endsAtU hu))

/-! ### Frames received at D (R158, R159, R172) -/

/-- Settles O29, by what the bytes are heard as. -/
theorem returnFramesAreMovedUpOrReplaced : Obligations.ReturnFramesAreMovedUpOrReplaced := by
  intro bytes s v hpartner hrx hv
  have received (r : State)
      (hr : (match hear bytes with
        | .bad => replaceReturn (v.countLink fun k => { k with dCheckErrors := satInc k.dCheckErrors })
        | .up f => arriveReturn f v
        | .down _ => countWrongPort v) = r) :
      exec (.returnFrameReceived bytes) s = .next r := by
    show Host.Outcome.next (receiveD bytes s) = _
    rw [receiveD, if_pos (by simp [receivingD, hpartner, hrx]), ← hr, hv]
    rfl
  have haddr : v.ciu.address = s.ciu.address := by rw [hv]; rfl
  refine ⟨fun f hf => ⟨fun ha => ?_, fun a ha => ⟨fun hroom => ?_, fun hfull => ?_⟩⟩, fun hf => ?_, fun f hf => ?_⟩ <;>
    refine received _ ?_ <;> rw [hf]
  · simp only [arriveReturn, haddr, ha]
  · simp only [arriveReturn, haddr, ha]
    exact if_neg (by simpa [payloadLimit] using hroom)
  · have hrpu : v.rpu = s.rpu := by rw [hv]; rfl
    simp only [arriveReturn, haddr, ha, payloadLimit, if_pos hfull, replaceReturn, ownOrigin, State.ciu_setRpu,
      Option.getD_some, hrpu]
  · simp only [replaceReturn, ownOrigin, State.countLink, State.ciu_setCiu, haddr]
  · rfl

end Sys2Proof.Machine
end

section
/-! PROOF. Marks: what the CTU makes of a CYCLE frame and of a window that closes (R3 to R16), and how the schedule's
entries are taken and discarded (R60, R65). -/

namespace Sys2Proof.Machine

/-! ### A created record depends on the report blocks only -/

/-- Two states with the same report queue and accounting, and the same EDGE counts. -/
structure ReportsAlike (s t : State) : Prop where
  rpu : t.rpu = s.rpu
  edges : t.fbm.edgeCounts = s.fbm.edgeCounts

namespace ReportsAlike

variable {s t u : State}

theorem refl (s : State) : ReportsAlike s s := ⟨rfl, rfl⟩

theorem trans (h : ReportsAlike s t) (g : ReportsAlike t u) : ReportsAlike s u :=
  ⟨g.rpu.trans h.rpu, g.edges.trans h.edges⟩

theorem ofLegs (h : SameButLegs s t) : ReportsAlike s t := ⟨h.rpu, h.edgeCounts⟩

theorem countEdge {x y : Fbm} (h : y.edgeCounts = x.edgeCounts) (b : RecBody) (f : Nat → Nat) :
    (y.countEdge b f).edgeCounts = (x.countEdge b f).edgeCounts := by
  unfold Fbm.countEdge
  split
  · simp only [h]
  · exact h

theorem enqueue (h : ReportsAlike s t) (r : Record) : ReportsAlike (enqueue r s) (enqueue r t) := by
  refine ⟨?_, countEdge h.edges _ _⟩
  simp only [Machine.enqueue, State.rpu_setFbm, State.rpu_setRpu, h.rpu]

theorem evict (h : ReportsAlike s t) (v : Record) (rest : List Record) :
    ReportsAlike (evict v rest s) (evict v rest t) := by
  refine ⟨?_, countEdge h.edges _ _⟩
  simp only [Machine.evict, State.rpu_setFbm, State.rpu_setRpu, h.rpu]

theorem dropOffered (h : ReportsAlike s t) (r : Record) : ReportsAlike (dropOffered r s) (dropOffered r t) := by
  refine ⟨?_, h.edges⟩
  simp only [Machine.dropOffered, State.rpu_setRpu, h.rpu]

theorem offerRecord (h : ReportsAlike s t) (r : Record) : ReportsAlike (offerRecord r s) (offerRecord r t) := by
  unfold Machine.offerRecord
  rw [h.rpu]
  split
  · exact h.enqueue r
  · split
    · exact (h.evict _ _).enqueue r
    · exact h.dropOffered r

/-- The same record created in two such states leaves two such states. -/
theorem report (h : ReportsAlike s t) (b : RecBody) : ReportsAlike (report b s) (report b t) := by
  unfold Machine.report
  rw [h.rpu]
  have advanced : ReportsAlike (advanceSeq s) (advanceSeq t) := by
    refine ⟨?_, h.edges⟩
    simp only [advanceSeq, State.rpu_setRpu, h.rpu]
  exact advanced.offerRecord _

/-- The same discard event in two such states with one schedule leaves two such states. -/
theorem discardEntries (h : ReportsAlike s t) (hs : t.esu.schedule = s.esu.schedule) (keep : SchedEntry → Bool)
    (r : DiscardReason) : ReportsAlike (discardEntries keep r s) (discardEntries keep r t) := by
  unfold Machine.discardEntries
  rw [hs]
  split
  · exact h
  · refine report ?_ _
    exact ⟨h.rpu, h.edges⟩

/-- The same cancel order in two such states, one commit pending or none. -/
theorem cancelCommit (h : ReportsAlike s t) (hp : t.bks.pending = s.bks.pending) (hc : t.ctu.cycle = s.ctu.cycle)
    (r : CancelReason) : ReportsAlike (cancelCommit r s) (cancelCommit r t) := by
  unfold Machine.cancelCommit
  rw [hp, hc]
  split
  · exact h
  · refine report ?_ _
    exact ⟨h.rpu, h.edges⟩

end ReportsAlike

section
variable {r v : Record} {rest : List Record} {s : State}

theorem offerRecord_of_room (h : s.rpu.queue.length < queueLimit) : offerRecord r s = enqueue r s := if_pos h

theorem offerRecord_of_victim (h : ¬s.rpu.queue.length < queueLimit)
    (hv : chooseVictim (evictable r.cls) s.rpu.queue = some (v, rest)) :
    offerRecord r s = enqueue r (evict v rest s) := by
  rw [offerRecord, if_neg h, hv]

theorem offerRecord_of_no_victim (h : ¬s.rpu.queue.length < queueLimit)
    (hv : chooseVictim (evictable r.cls) s.rpu.queue = none) : offerRecord r s = dropOffered r s := by
  rw [offerRecord, if_neg h, hv]

end

/-- An offered record and a change of the CTU do not meet. -/
theorem offerRecord_setCtu (r : Record) (x : Ctu) (s : State) :
    offerRecord r (s.setCtu x) = (offerRecord r s).setCtu x := by
  by_cases hroom : s.rpu.queue.length < queueLimit
  · rw [offerRecord_of_room hroom, offerRecord_of_room (s := s.setCtu x) hroom]; rfl
  · cases hv : chooseVictim (evictable r.cls) s.rpu.queue with
    | none => rw [offerRecord_of_no_victim hroom hv, offerRecord_of_no_victim (s := s.setCtu x) hroom hv]; rfl
    | some vr => rw [offerRecord_of_victim hroom hv, offerRecord_of_victim (s := s.setCtu x) hroom hv]; rfl

theorem report_setCtu (b : RecBody) (x : Ctu) (s : State) : report b (s.setCtu x) = (report b s).setCtu x :=
  offerRecord_setCtu _ x (advanceSeq s)

/-! ### Windows (R5) -/

theorem windowPlace_eq (s : State) :
    windowPlace s.ctu (s.now + s.nodeParams.delayComp.setWidth 32) =
      if markOffset s < -(s.ctu.tolerance.toNat : Int) then .before
      else if (s.ctu.tolerance.toNat : Int) < markOffset s then .after else .inside := rfl

theorem windowPlace_inside_iff (s : State) :
    windowPlace s.ctu (s.now + s.nodeParams.delayComp.setWidth 32) = .inside ↔ InWindow s := by
  rw [windowPlace_eq, InWindow]
  split
  · simp; omega
  · split
    · simp; omega
    · simp; omega

theorem windowPlace_after {s : State} (h : (s.ctu.tolerance.toNat : Int) < markOffset s) :
    windowPlace s.ctu (s.now + s.nodeParams.delayComp.setWidth 32) = .after := by
  rw [windowPlace_eq, if_neg (by omega), if_pos h]

theorem windowPlace_before {s : State} (h : markOffset s < -(s.ctu.tolerance.toNat : Int)) :
    windowPlace s.ctu (s.now + s.nodeParams.delayComp.setWidth 32) = .before := by
  rw [windowPlace_eq, if_pos h]

/-! ### Cycle numbers against each other (0.7.2) -/

theorem cycleBehind_iff (a b : Half) : cycleBehind a b = true ↔ 32768 ≤ (a - b).toNat := decide_eq_true_iff

theorem cycleReached_iff (a b : Half) : cycleReached a b = true ↔ (a - b).toNat ≤ 32767 := decide_eq_true_iff

theorem cycleAhead_iff (a b : Half) : cycleAhead a b = true ↔ 1 ≤ (a - b).toNat ∧ (a - b).toNat ≤ 32767 := by
  rw [cycleAhead, Bool.and_eq_true, decide_eq_true_iff, decide_eq_true_iff]
  rfl

/-! ### Which rule a CYCLE frame comes under (R3, R4) -/

section
variable {f : CycleFrame} {s : State}

theorem takeCycle_of_not_operating (hn : s.ncu.state = .unaddressed ∨ s.ncu.state = .standby ∨ s.ncu.state = .halted) :
    takeCycle f s = ignoreFrame s := by
  rcases hn with hn | hn | hn <;> simp only [takeCycle, hn]

theorem takeCycle_of_short (hn : Operating s) (hp : f.period.toNat < 2000) :
    takeCycle f s = s.countTiming fun k => { k with periodErrors := satInc k.periodErrors } := by
  rcases hn with hn | hn <;>
    simp only [takeCycle, hn, periodChecked, if_neg (by simpa [periodOk] using hp : ¬periodOk f.period = true)]

theorem takeCycle_of_syncing (hn : s.ncu.state = .syncing) (hp : 2000 ≤ f.period.toNat) :
    takeCycle f s = syncingFrame (s.now + s.nodeParams.delayComp.setWidth 32) f s := by
  simp only [takeCycle, hn, periodChecked, if_pos (by simpa [periodOk] using hp : periodOk f.period = true)]

theorem takeCycle_of_running (hn : s.ncu.state = .running) (hp : 2000 ≤ f.period.toNat) :
    takeCycle f s = runningFrame (s.now + s.nodeParams.delayComp.setWidth 32) f s := by
  simp only [takeCycle, hn, periodChecked, if_pos (by simpa [periodOk] using hp : periodOk f.period = true)]

end

section
variable {f : CycleFrame} {c : Time} {s : State}

theorem runningFrame_of_stale (h : windowPlace s.ctu c = .inside)
    (hn : 32768 ≤ (f.number - (s.ctu.cycle + 1)).toNat) :
    runningFrame c f s = s.countTiming fun k => { k with staleFrames := satInc k.staleFrames } := by
  simp only [runningFrame, h]
  exact if_pos (decide_eq_true hn)

theorem runningFrame_of_accepted (h : windowPlace s.ctu c = .inside)
    (hn : (f.number - (s.ctu.cycle + 1)).toNat ≤ 32767) :
    runningFrame c f s =
      acceptMark c f (s.countTiming fun k =>
        { k with cyclesSkipped := satAdd k.cyclesSkipped (f.number - (s.ctu.cycle + 1)).toNat }) := by
  simp only [runningFrame, h]
  exact if_neg (by rw [cycleBehind_iff]; omega)

theorem runningFrame_of_after (h : windowPlace s.ctu c = .after) : runningFrame c f s = dropLate s := by
  simp only [runningFrame, h]

theorem runningFrame_of_early (h : windowPlace s.ctu c = .before) (hlow : 1 ≤ (f.number - s.ctu.cycle).toNat)
    (hhigh : (f.number - s.ctu.cycle).toNat ≤ 32767) :
    runningFrame c f s = s.countTiming fun k => { k with earlyFrames := satInc k.earlyFrames } := by
  simp only [runningFrame, h]
  exact if_pos ((cycleAhead_iff _ _).2 ⟨hlow, hhigh⟩)

theorem runningFrame_of_late (h : windowPlace s.ctu c = .before)
    (hn : (f.number - s.ctu.cycle).toNat = 0 ∨ 32768 ≤ (f.number - s.ctu.cycle).toNat) :
    runningFrame c f s = dropLate s := by
  simp only [runningFrame, h]
  exact if_neg (by rw [cycleAhead_iff]; omega)

end

/-- Settles O30: frames outside operation and short periods by the node state, dropped ones by their window place. -/
theorem unusedAndDroppedCycleFramesAreCounted : Obligations.UnusedAndDroppedCycleFramesAreCounted := by
  refine ⟨fun f s v hu hlen hv => ⟨fun hn => ?_, fun hn hp => ?_⟩,
    fun f s v hu hlen hn hp hv => ⟨fun hin hbehind => ?_, fun hafter => ?_, fun hbefore => ⟨fun h1 h2 => ?_, fun hlate => ?_⟩⟩⟩
  · rw [exec_cycle_of_endsAtU hu hlen, takeCycle_of_not_operating (s := endReceptionU s) hn, hv]; rfl
  · rw [exec_cycle_of_endsAtU hu hlen, takeCycle_of_short (s := endReceptionU s) hn hp, hv]; rfl
  · rw [exec_cycle_of_endsAtU hu hlen, takeCycle_of_running (s := endReceptionU s) hn hp,
      runningFrame_of_stale (s := endReceptionU s) ((windowPlace_inside_iff (endReceptionU s)).2 hin) hbehind, hv]; rfl
  · rw [exec_cycle_of_endsAtU hu hlen, takeCycle_of_running (s := endReceptionU s) hn hp,
      runningFrame_of_after (s := endReceptionU s) (windowPlace_after (s := endReceptionU s) hafter), hv]; rfl
  · rw [exec_cycle_of_endsAtU hu hlen, takeCycle_of_running (s := endReceptionU s) hn hp,
      runningFrame_of_early (s := endReceptionU s) (windowPlace_before (s := endReceptionU s) hbefore) h1 h2, hv]; rfl
  · rw [exec_cycle_of_endsAtU hu hlen, takeCycle_of_running (s := endReceptionU s) hn hp,
      runningFrame_of_late (s := endReceptionU s) (windowPlace_before (s := endReceptionU s) hbefore) hlate, hv]; rfl

/-! ### First frames and accepted frames (R7, R8, R11) -/

theorem syncingFrame_of_first {f : CycleFrame} {s : State} {c : Time}
    (h : s.ctu.lock = .none ∨
      (s.ctu.lock = .firstSeen ∧ ¬(windowPlace s.ctu c = .inside ∧ f.number = s.ctu.cycle + 1))) :
    syncingFrame c f s = firstFrame c f s := by
  rcases h with hl | ⟨hl, hno⟩
  · simp only [syncingFrame, hl]
  · simp only [syncingFrame, hl]
    exact if_neg hno

theorem syncingFrame_of_lock {f : CycleFrame} {s : State} {c : Time} (hl : s.ctu.lock = .firstSeen)
    (h : windowPlace s.ctu c = .inside) (hnum : f.number = s.ctu.cycle + 1) :
    syncingFrame c f s = acceptMark c f (lockNode s) := by
  simp only [syncingFrame, hl]
  exact if_pos ⟨h, hnum⟩

/-- Settles O31, by the rule for first frames. -/
theorem firstFramesStartTheLock : Obligations.FirstFramesStartTheLock := by
  intro f s hu hlen hn hp hfirst
  have first : syncingFrame ((endReceptionU s).now + (endReceptionU s).nodeParams.delayComp.setWidth 32) f
      (endReceptionU s) =
      firstFrame (s.now + s.nodeParams.delayComp.setWidth 32) f (endReceptionU s) := by
    refine syncingFrame_of_first (hfirst.imp id fun ⟨hl, hno⟩ => ⟨hl, fun ⟨hin, hnum⟩ =>
      hno ⟨(windowPlace_inside_iff s).1 hin, hnum⟩⟩)
  rw [exec_cycle_of_endsAtU hu hlen, takeCycle_of_syncing (s := endReceptionU s) hn hp, first]
  rfl

/-- A commit check at a mark whose number a pending target reaches or passes is a swap (R15). -/
theorem commitCheck_eq {number : Half} {s r w : State} (hcycle : r.ctu.cycle = number)
    (hpending : r.bks.pending = s.bks.pending) (hswap : MarkSwaps number s → w = swapBanks .targeted r)
    (hkeep : ¬MarkSwaps number s → w = r) : commitCheck r = w := by
  unfold commitCheck
  split
  · next hnone => exact (hkeep fun ⟨g, hg, _⟩ => by simp [← hpending, hnone] at hg).symm
  · next g hg =>
    by_cases hreach : (number - g).toNat ≤ 32767
    · rw [if_pos (by rwa [hcycle, cycleReached_iff]), hswap ⟨g, hpending ▸ hg, hreach⟩]
    · rw [if_neg (by rwa [hcycle, cycleReached_iff])]
      refine (hkeep fun ⟨x, hx, hle⟩ => hreach ?_).symm
      rw [← hpending, hg, Option.some.injEq] at hx
      exact hx ▸ hle

/-- The RESUMED record: one at misses above 0, which are then 0 (R11, R17). -/
theorem resumeSync_eq (n : Half) (s : State) :
    resumeSync n s =
      if s.ctu.misses = 0 then s
      else report (.sync .resumed n (BitVec.ofNat 8 s.ctu.misses)) (s.setCtu { s.ctu with misses := 0 }) := by
  unfold resumeSync
  split
  · rfl
  · rw [report_setCtu]
    simp only [ctu_report]

/-- Settles O32: lock and acceptance come to the same mark, then the commit check, then the decode. -/
theorem acceptedCycleFramesMarkTheCycle : Obligations.AcceptedCycleFramesMarkTheCycle := by
  refine ⟨fun f s v r w misses hu hlen hp hin hcase hv hr hswap hkeep => ?_, fun _ _ _ _ _ _ _ => ⟨rfl, rfl⟩,
    fun number s => ?_⟩
  · have accepted : ∃ t, takeCycle f (endReceptionU s) =
        acceptMark (s.now + s.nodeParams.delayComp.setWidth 32) f t ∧
          markAccepted (s.now + s.nodeParams.delayComp.setWidth 32) f t = r := by
      rcases hcase with ⟨hn, hnum, hm⟩ | ⟨hn, hl, hnum, hm⟩
      · refine ⟨_, (takeCycle_of_running (s := endReceptionU s) hn hp).trans
          (runningFrame_of_accepted ((windowPlace_inside_iff (endReceptionU s)).2 hin) hnum), ?_⟩
        have hncu : ({ s.ncu with state := .running } : Ncu) = s.ncu := by rw [← hn]
        rw [hr, hv, hm, markAccepted, resumeSync_eq, hncu]
        simp only [hn, reduceCtorEq, if_false]
        by_cases hz : s.ctu.misses = 0
        · rw [if_pos hz]
          refine (if_pos hz).trans ?_
          rw [← hz]
          rfl
        · rw [if_neg hz]
          exact if_neg hz
      · refine ⟨_, (takeCycle_of_syncing (s := endReceptionU s) hn hp).trans
          (syncingFrame_of_lock hl ((windowPlace_inside_iff (endReceptionU s)).2 hin) hnum), ?_⟩
        rw [hr, hv, hm, if_pos rfl, markAccepted, resumeSync_eq]
        refine (if_pos rfl).trans ?_
        simp only [hn, if_true]
        rfl
    obtain ⟨t, htake, hmark⟩ := accepted
    have hcycle : r.ctu.cycle = f.number := by
      rw [hr]; split <;> simp [hv]
    have hpending : r.bks.pending = s.bks.pending := by
      rw [hr]; split <;> simp [hv]
    have checked := commitCheck_eq hcycle hpending hswap hkeep
    rw [exec_cycle_of_endsAtU hu hlen, htake, acceptMark_eq, hmark, checked]
    exact ⟨fun hhalt => by rw [if_pos hhalt], fun hrun => by rw [if_neg hrun]; rfl⟩
  · have due (e : SchedEntry) : (decide (e.due = s.now) && decide (e.source = number)) =
        decide (e.due = s.now ∧ e.source = number) := by rw [Bool.decide_and]
    simp only [takeDecoded, takeEntries, due]
    rfl

/-! ### Closed windows (R9, R13) -/

/-- The events of monitors and channels leave the CTU as it is unless they halt the node. -/
theorem protKept_haltedOrCtu (c : Ctu) : ProtKept fun s => s.ncu.state = .halted ∨ s.ctu = c where
  judge l s h := by rwa [(judgeLeg_same l s).ncu, (judgeLeg_same l s).ctu]
  cause l x b s h := by rwa [(addCause_same l x b s).ncu, (addCause_same l x b s).ctu]
  monitor _ _ _ _ _ h := h
  feedback _ _ h := h
  record b s _ h := by rwa [ncu_report, ctu_report]
  capture l sw d c s h := by rwa [(captureEdge_same l sw d c s).ncu, (captureEdge_same l sw d c s).ctu]
  enterHalt x s _ _ _ := .inl (by simp)
  furtherHalt x s _ _ := .inl (by simp)
  force n l s h := by rwa [(forceLeg_same n l s).ncu, (forceLeg_same n l s).ctu]
  withdraw n l s h := by rwa [(withdrawLeg_same n l s).ncu, (withdrawLeg_same n l s).ctu]
  causes l cs s h := by rwa [(setCauses_same l cs s).ncu, (setCauses_same l cs s).ctu]
  pru _ _ h := h

theorem swapBanks_haltedOrCtu (f : CommitForm) (s : State) :
    (swapBanks f s).ncu.state = .halted ∨ (swapBanks f s).ctu = s.ctu := by
  have K := protKept_haltedOrCtu s.ctu
  refine K.swapChannels _ (K.swapMonitors _ (.inr ?_))
  rw [ctu_discardEntries, (SameButLegs.ofForLegs (fun l t => swapLeg_same _ l t) _).ctu, ctu_report]
  rfl

theorem commitCheck_haltedOrCtu (s : State) :
    (commitCheck s).ncu.state = .halted ∨ (commitCheck s).ctu = s.ctu := by
  unfold commitCheck
  split
  · exact .inr rfl
  · split
    · exact swapBanks_haltedOrCtu _ s
    · exact .inr rfl

theorem exec_windowClose {s : State} (h : WindowCloses s) :
    (s.ncu.state = .syncing → exec .windowClose s = .next (coastSyncing s)) ∧
      (s.ncu.state = .running → exec .windowClose s = .next (coastRunning s)) := by
  have hdue : windowDue s = true := (windowDue_iff s).2 h
  refine ⟨fun hn => congrArg Host.Outcome.next ((if_pos hdue).trans ?_),
    fun hn => congrArg Host.Outcome.next ((if_pos hdue).trans ?_)⟩ <;>
  rw [hn]

/-- Settles O35: the coasted mark, the commit check in RUNNING, then the misses against MISS-LIMIT. -/
theorem closedWindowsCoastOrHalt : Obligations.ClosedWindowsCoastOrHalt := by
  intro s v hclose hv
  have hmark : declareCoast s = v := hv.symm
  have hmiss : v.ctu.misses = s.ctu.misses + 1 := by rw [hv]; rfl
  have hlimit : v.ctu.missLimit = s.ctu.missLimit := by rw [hv]; rfl
  have hcycle : v.ctu.cycle = s.ctu.cycle + 1 := by rw [hv]; rfl
  refine ⟨fun hn => ⟨fun hbelow => ?_, fun hreach => ?_⟩, fun hn w hswap hkeep => ?_⟩
  · rw [(exec_windowClose hclose).1 hn, coastSyncing, hmark]
    exact congrArg _ (if_neg (by rw [hlimit]; omega))
  · rw [(exec_windowClose hclose).1 hn, coastSyncing, hmark]
    exact congrArg _ (if_pos (by rw [hlimit]; omega))
  · have checked : commitCheck v = w := commitCheck_eq hcycle (by rw [hv]; rfl) hswap hkeep
    have hctu : w.ncu.state ≠ .halted → w.ctu = v.ctu := fun hrun =>
      (checked ▸ commitCheck_haltedOrCtu v).resolve_left hrun
    rw [(exec_windowClose hclose).2 hn, coastRunning, hmark, checked]
    refine ⟨fun hhalt => congrArg _ (if_pos hhalt), fun hrun hreach => ?_, fun hrun hbelow x hx => ?_⟩
    · exact congrArg _ ((if_neg hrun).trans (if_pos (by rw [hctu hrun, hlimit]; omega)))
    · refine congrArg _ ((if_neg hrun).trans ((if_neg (by rw [hctu hrun, hlimit]; omega)).trans ?_))
      have hxmiss : x.ctu.misses = s.ctu.misses + 1 := by rw [hx, State.ctu_setCtu, hctu hrun, hmiss]
      have hxcycle : x.ctu.cycle = s.ctu.cycle + 1 := by rw [hx, State.ctu_setCtu, hctu hrun, hcycle]
      have hload : loadInForce w = x := hx.symm
      rw [coastContinue, hload, hxmiss, hxcycle]
      by_cases hz : s.ctu.misses = 0
      · rw [if_pos (by omega), if_pos hz]
      · rw [if_neg (by omega), if_neg hz]

/-! ### Schedule entries taken and discarded (R60, R65) -/

theorem splitDue_append {due rest : List SchedEntry} {d : Time} (hne : due ≠ []) (hdue : ∀ e ∈ due, e.due = d)
    (hrest : ∀ e later, rest = e :: later → e.due ≠ d) : splitDue (due ++ rest) = (due, rest) := by
  obtain ⟨e, es, rfl⟩ := List.exists_cons_of_ne_nil hne
  have hhead : e.due = d := hdue e List.mem_cons_self
  have hsame : ∀ x ∈ es, decide (x.due = e.due) = true := fun x hx =>
    decide_eq_true ((hdue x (List.mem_cons_of_mem _ hx)).trans hhead.symm)
  have hstop : (rest.takeWhile fun x => decide (x.due = e.due)) = [] ∧
      (rest.dropWhile fun x => decide (x.due = e.due)) = rest := by
    cases rest with
    | nil => exact ⟨rfl, rfl⟩
    | cons x later =>
      have hx : decide (x.due = e.due) = false := decide_eq_false (hhead ▸ hrest x later rfl)
      exact ⟨List.takeWhile_cons_of_neg (by simp [hx]), List.dropWhile_cons_of_neg (by simp [hx])⟩
  simp only [List.cons_append, splitDue]
  rw [List.takeWhile_append_of_pos hsame, List.dropWhile_append_of_pos hsame, hstop.1, hstop.2, List.append_nil]

/-- Settles O37, by the split of the schedule at its head. -/
theorem dueEntriesAreTakenInOrder : Obligations.DueEntriesAreTakenInOrder := by
  intro due rest d s hs hne hdue hrest hreach
  have hhead : headDue s = true := by
    obtain ⟨e, es, rfl⟩ := List.exists_cons_of_ne_nil hne
    exact (headDue_iff s).2 ⟨e, es ++ rest, hs, by rw [hdue e List.mem_cons_self]; exact hreach⟩
  refine congrArg Host.Outcome.next ((if_pos hhead).trans ?_)
  rw [hs, splitDue_append hne hdue hrest]
  rfl

theorem furthestBehind_mem (best : Half) (es : List SchedEntry) :
    furthestBehind best es = best ∨ ∃ e ∈ es, e.source = furthestBehind best es := by
  induction es generalizing best with
  | nil => exact .inl rfl
  | cons e rest ih =>
    rw [furthestBehind]
    rcases ih (if cycleBehind e.source best then e.source else best) with h | ⟨x, hx, h⟩
    · split at h
      · exact .inr ⟨e, List.mem_cons_self, by rw [if_pos (by assumption)]; exact h.symm⟩
      · exact .inl (by rw [if_neg (by assumption)]; exact h)
    · exact .inr ⟨x, List.mem_cons_of_mem _ hx, h⟩

/-- Within one half of the cycle count, "behind" is the order of the distances from the half's start. -/
theorem cycleBehind_iff_of_half {a b base : Half} (ha : (a - base).toNat < 32768) (hb : (b - base).toNat < 32768) :
    cycleBehind a b = true ↔ (a - base).toNat < (b - base).toNat := by
  rw [cycleBehind_iff]
  bv_omega

/-- Within one half of the cycle count, none of the entries is behind the source cycle found. -/
theorem furthestBehind_le {base best : Half} {es : List SchedEntry} (hbest : (best - base).toNat < 32768)
    (hes : ∀ e ∈ es, (e.source - base).toNat < 32768) :
    (furthestBehind best es - base).toNat ≤ (best - base).toNat ∧
      ∀ e ∈ es, (furthestBehind best es - base).toNat ≤ (e.source - base).toNat := by
  induction es generalizing best with
  | nil => exact ⟨le_rfl, fun e he => absurd he (by simp)⟩
  | cons e rest ih =>
    have he := hes e List.mem_cons_self
    have hrest := fun x hx => hes x (List.mem_cons_of_mem _ hx)
    have hbehind := cycleBehind_iff_of_half he hbest
    rw [furthestBehind]
    split
    · next h =>
      obtain ⟨hle, hall⟩ := ih he hrest
      refine ⟨by have := hbehind.1 h; omega, fun x hx => ?_⟩
      rcases List.mem_cons.1 hx with rfl | hx
      · exact hle
      · exact hall x hx
    · next h =>
      obtain ⟨hle, hall⟩ := ih hbest hrest
      refine ⟨hle, fun x hx => ?_⟩
      rcases List.mem_cons.1 hx with rfl | hx
      · have := mt hbehind.2 h
        omega
      · exact hall x hx

/-- Settles O39: nothing found, or the record with the source cycle the comparison leaves. -/
theorem discardsAreCountedAndReported : Obligations.DiscardsAreCountedAndReported := by
  intro keep reason s gone hgone
  refine ⟨fun hnil => by rw [discardEntries, ← hgone, hnil], fun hne => ?_⟩
  obtain ⟨e, rest, rfl⟩ := List.exists_cons_of_ne_nil hne
  refine ⟨furthestBehind e.source rest, ?_, fun ⟨base, hbase⟩ x hx => ?_, by rw [discardEntries, ← hgone]; rfl⟩
  · rcases furthestBehind_mem e.source rest with h | ⟨x, hx, h⟩
    · exact ⟨e, List.mem_cons_self, h.symm⟩
    · exact ⟨x, List.mem_cons_of_mem _ hx, h⟩
  · obtain ⟨hle, hall⟩ := furthestBehind_le (hbase e List.mem_cons_self)
      fun y hy => hbase y (List.mem_cons_of_mem _ hy)
    have hbest : (furthestBehind e.source rest - base).toNat ≤ (x.source - base).toNat := by
      rcases List.mem_cons.1 hx with rfl | hx
      · exact hle
      · exact hall x hx
    have hx' := hbase x hx
    rw [Bool.eq_false_iff, Ne, cycleBehind_iff_of_half hx' (by omega)]
    omega

end Sys2Proof.Machine
end

section
/-! PROOF. Validation of a bank (R132): each of the seven checks finds the first record that fails it, and what a bank
that passes guarantees of the claims on an address (R50). -/

namespace Sys2Proof.Machine

/-! ### Positions in the examination order -/

theorem legIndex_injective {l k : LegId} (h : legIndex l = legIndex k) : l = k := by
  cases l <;> cases k <;> first | rfl | exact absurd h (by decide)

theorem strobeIndex_injective {x y : StrobeId} (h : strobeIndex x = strobeIndex y) : x = y := by
  cases x <;> cases y <;> first | rfl | exact absurd h (by decide)

/-- The record named is the first that fails check V`v`. -/
def FirstFailure (b : Bank) (v : Nat) (name : RecordName) : Prop :=
  FailsCheck b v name ∧ ∀ other, other.place < name.place → ¬FailsCheck b v other

/-- The seven checks, by number. -/
def checkNumber (b : Bank) : Nat → Option RecordName
  | 1 => checkV1 b
  | 2 => checkV2 b
  | 3 => checkV3 b
  | 4 => checkV4 b
  | 5 => checkV5 b
  | 6 => checkV6 b
  | 7 => checkV7 b
  | _ => none

/-- The first of some checks that finds a record, with its number. -/
def firstCheck {β : Type} (g : Nat → Option β) : List Nat → Option (Nat × β)
  | [] => none
  | v :: vs => ((g v).map (v, ·)).or (firstCheck g vs)

theorem validate_eq_firstCheck (b : Bank) :
    validate b = (firstCheck (checkNumber b) [1, 2, 3, 4, 5, 6, 7]).map fun r => (BitVec.ofNat 8 r.1, r.2) := by
  simp only [firstCheck, Option.map_or, Option.map_map, Option.or_none]
  rfl

/-- Only checks V1 to V7 can be failed. -/
theorem FailsCheck.range {b : Bank} {v : Nat} {name : RecordName} (h : FailsCheck b v name) : v ∈ [1, 2, 3, 4, 5, 6, 7] := by
  cases name with
  | leg l => obtain ⟨-, ⟨rfl, -⟩ | ⟨rfl, -⟩ | ⟨rfl, -⟩ | ⟨rfl, -⟩ | ⟨rfl, -⟩⟩ := h <;> simp
  | strobe x => obtain ⟨rfl, -⟩ := h; simp
  | prot n => obtain ⟨-, ⟨rfl, -⟩ | ⟨rfl, -⟩⟩ := h <;> simp
  | node => exact h.elim

/-! ### Searches along an order -/

/-- The first member of an ordered list with a property. -/
theorem find?_eq_some_iff_of_ordered {α : Type} (place : α → Nat) {p : α → Bool} {xs : List α}
    (h : xs.Pairwise fun a b => place a < place b) (a : α) :
    xs.find? p = some a ↔ a ∈ xs ∧ p a = true ∧ ∀ x ∈ xs, place x < place a → p x = false := by
  induction xs with
  | nil => simp
  | cons x rest ih =>
    obtain ⟨hx, hrest⟩ := List.pairwise_cons.1 h
    cases hp : p x with
    | true =>
      rw [List.find?_cons_of_pos hp, Option.some.injEq]
      refine ⟨?_, fun ⟨hmem, hpa, hfirst⟩ => ?_⟩
      · rintro rfl
        refine ⟨List.mem_cons_self, hp, fun y hy hlt => ?_⟩
        rcases List.mem_cons.1 hy with rfl | hy
        · omega
        · have := hx y hy; omega
      · rcases List.mem_cons.1 hmem with rfl | hmem
        · rfl
        · exact absurd (hfirst x List.mem_cons_self (hx a hmem)) (by simp [hp])
    | false =>
      rw [List.find?_cons_of_neg (by simp [hp]), ih hrest]
      refine ⟨fun ⟨hmem, hpa, hfirst⟩ => ⟨List.mem_cons_of_mem _ hmem, hpa, fun y hy hlt => ?_⟩,
        fun ⟨hmem, hpa, hfirst⟩ => ⟨?_, hpa, fun y hy hlt => hfirst y (List.mem_cons_of_mem _ hy) hlt⟩⟩
      · rcases List.mem_cons.1 hy with rfl | hy
        · exact hp
        · exact hfirst y hy hlt
      · rcases List.mem_cons.1 hmem with rfl | hmem
        · exact absurd hpa (by simp [hp])
        · exact hmem

theorem firstCheck_eq_some_iff {β : Type} {g : Nat → Option β} {xs : List Nat} (h : xs.Pairwise (· < ·)) (w : Nat)
    (y : β) : firstCheck g xs = some (w, y) ↔ w ∈ xs ∧ g w = some y ∧ ∀ v ∈ xs, v < w → g v = none := by
  induction xs with
  | nil => simp [firstCheck]
  | cons x rest ih =>
    obtain ⟨hx, hrest⟩ := List.pairwise_cons.1 h
    rw [firstCheck]
    cases hg : g x with
    | none =>
      rw [Option.map_none, Option.none_or, ih hrest]
      refine ⟨fun ⟨hmem, hw, hfirst⟩ => ⟨List.mem_cons_of_mem _ hmem, hw, fun v hv hlt => ?_⟩,
        fun ⟨hmem, hw, hfirst⟩ => ⟨?_, hw, fun v hv hlt => hfirst v (List.mem_cons_of_mem _ hv) hlt⟩⟩
      · rcases List.mem_cons.1 hv with rfl | hv
        · exact hg
        · exact hfirst v hv hlt
      · rcases List.mem_cons.1 hmem with rfl | hmem
        · exact absurd hw (by simp [hg])
        · exact hmem
    | some z =>
      rw [Option.map_some, Option.some_or, Option.some.injEq, Prod.mk.injEq]
      refine ⟨?_, fun ⟨hmem, hw, hfirst⟩ => ?_⟩
      · rintro ⟨rfl, rfl⟩
        refine ⟨List.mem_cons_self, hg, fun v hv hlt => ?_⟩
        rcases List.mem_cons.1 hv with rfl | hv
        · omega
        · have := hx v hv; omega
      · rcases List.mem_cons.1 hmem with rfl | hmem
        · exact ⟨rfl, by rw [hg] at hw; exact Option.some.inj hw⟩
        · exact absurd (hfirst x List.mem_cons_self (hx w hmem)) (by simp [hg])

theorem firstCheck_eq_none_iff {β : Type} {g : Nat → Option β} (xs : List Nat) :
    firstCheck g xs = none ↔ ∀ v ∈ xs, g v = none := by
  induction xs with
  | nil => simp [firstCheck]
  | cons x rest ih => simp [firstCheck, ih]

/-! ### Checks of one leg or one entry -/

theorem legs_ordered : allLegs.Pairwise fun l k => legIndex l < legIndex k := by decide

theorem chans_ordered : allChans.Pairwise fun n k => chanIndex n < chanIndex k := by decide

/-- A check of the enabled legs finds the first record that fails it. -/
theorem firstLeg_eq_some_iff {b : Bank} {v : Nat} {fails : LegRecord → Bool} (hv : v ≠ 1 ∧ v ≠ 6 ∧ v ≠ 7)
    (hfails : ∀ l, FailsCheck b v (.leg l) ↔ (b.legs.get l).mode.enabled = true ∧ fails (b.legs.get l) = true)
    (name : RecordName) : firstLeg b fails = some name ↔ FirstFailure b v name := by
  have others : ∀ other, FailsCheck b v other → ∃ l, other = .leg l := fun other h => by
    cases other with
    | leg l => exact ⟨l, rfl⟩
    | strobe x => exact absurd h.1 hv.1
    | prot n => exact h.2.elim (fun g => absurd g.1 hv.2.1) fun g => absurd g.1 hv.2.2
    | node => exact h.elim
  simp only [firstLeg, Option.map_eq_some_iff, find?_eq_some_iff_of_ordered legIndex legs_ordered, mem_allLegs, true_and,
    Bool.and_eq_true, ← hfails, true_imp_iff, FirstFailure]
  refine ⟨?_, fun ⟨hname, hfirst⟩ => ?_⟩
  · rintro ⟨l, ⟨hl, hfirst⟩, rfl⟩
    refine ⟨hl, fun other hlt hother => ?_⟩
    obtain ⟨k, rfl⟩ := others other hother
    have := hfirst k hlt
    simp only [Bool.and_eq_false_iff] at this
    obtain ⟨hen, hk⟩ := (hfails k).1 hother
    simp [hen, hk] at this
  · obtain ⟨l, rfl⟩ := others name hname
    refine ⟨l, ⟨hname, fun k hlt => ?_⟩, rfl⟩
    rw [Bool.eq_false_iff, Ne, Bool.and_eq_true, ← hfails]
    exact hfirst (.leg k) hlt

/-- A check of the ACTIVE protection entries finds the first record that fails it. -/
theorem firstEntry_eq_some_iff {b : Bank} {v : Nat} {fails : ProtEntry → Bool} (hv : v = 6 ∨ v = 7)
    (hfails : ∀ n, FailsCheck b v (.prot n) ↔ (b.prot.get n).use = .active ∧ fails (b.prot.get n) = true)
    (name : RecordName) : firstEntry b fails = some name ↔ FirstFailure b v name := by
  have others : ∀ other, FailsCheck b v other → ∃ n, other = .prot n := fun other h => by
    cases other with
    | prot n => exact ⟨n, rfl⟩
    | leg l => obtain ⟨-, ⟨rfl, -⟩ | ⟨rfl, -⟩ | ⟨rfl, -⟩ | ⟨rfl, -⟩ | ⟨rfl, -⟩⟩ := h <;> simp at hv
    | strobe x => obtain ⟨rfl, -⟩ := h; simp at hv
    | node => exact h.elim
  simp only [firstEntry, Option.map_eq_some_iff, find?_eq_some_iff_of_ordered chanIndex chans_ordered, mem_allChans,
    true_and, Bool.and_eq_true, decide_eq_true_eq, ← hfails, true_imp_iff, FirstFailure]
  refine ⟨?_, fun ⟨hname, hfirst⟩ => ?_⟩
  · rintro ⟨n, ⟨hn, hfirst⟩, rfl⟩
    refine ⟨hn, fun other hlt hother => ?_⟩
    obtain ⟨k, rfl⟩ := others other hother
    have := hfirst k (Nat.lt_of_add_lt_add_left hlt)
    obtain ⟨huse, hk⟩ := (hfails k).1 hother
    simp [huse, hk] at this
  · obtain ⟨n, rfl⟩ := others name hname
    refine ⟨n, ⟨hname, fun k hlt => ?_⟩, rfl⟩
    rw [Bool.eq_false_iff, Ne, Bool.and_eq_true, decide_eq_true_eq, ← hfails]
    exact hfirst (.prot k) (Nat.add_lt_add_left hlt 8)

/-! ### V1: duplicate addresses -/

/-- An address stands among those seen, or at an earlier place of the list. -/
def Duplicate (seen : List Byte) (xs : List (RecordName × Byte)) (name : RecordName) (a : Byte) : Prop :=
  a ∈ seen ∨ ∃ m, (m, a) ∈ xs ∧ m.place < name.place

theorem firstDuplicate_eq_some_iff {seen : List Byte} {xs : List (RecordName × Byte)}
    (h : xs.Pairwise fun x y => x.1.place < y.1.place) (name : RecordName) :
    firstDuplicate seen xs = some name ↔
      ∃ a, (name, a) ∈ xs ∧ Duplicate seen xs name a ∧
        ∀ m c, (m, c) ∈ xs → m.place < name.place → ¬Duplicate seen xs m c := by
  induction xs generalizing seen with
  | nil => simp [firstDuplicate]
  | cons x rest ih =>
    obtain ⟨n, a⟩ := x
    obtain ⟨hhead, hrest⟩ := List.pairwise_cons.1 h
    have hx (m : RecordName) (c : Byte) (hm : (m, c) ∈ rest) : n.place < m.place := hhead (m, c) hm
    have head (c : Byte) : Duplicate seen ((n, a) :: rest) n c ↔ c ∈ seen := by
      refine ⟨fun hd => hd.elim id fun ⟨m, hm, hlt⟩ => ?_, .inl⟩
      rcases List.mem_cons.1 hm with heq | hm
      · cases heq; omega
      · have := hx _ _ hm; omega
    have tail (m : RecordName) (c : Byte) (hm : (m, c) ∈ rest) :
        Duplicate seen ((n, a) :: rest) m c ↔ Duplicate (a :: seen) rest m c := by
      have hlt := hx m c hm
      simp only [Duplicate, List.mem_cons, Prod.mk.injEq]
      refine ⟨?_, ?_⟩
      · rintro (hs | ⟨k, ⟨-, hc⟩ | hk, hlt'⟩)
        · exact .inl (.inr hs)
        · exact .inl (.inl hc)
        · exact .inr ⟨k, hk, hlt'⟩
      · rintro ((hc | hs) | ⟨k, hk, hlt'⟩)
        · exact .inr ⟨n, .inl ⟨rfl, hc⟩, hlt⟩
        · exact .inl hs
        · exact .inr ⟨k, .inr hk, hlt'⟩
    rw [firstDuplicate]
    by_cases hseen : a ∈ seen
    · rw [if_pos hseen, Option.some.injEq]
      refine ⟨?_, fun ⟨c, hmem, hdup, hfirst⟩ => ?_⟩
      · rintro rfl
        refine ⟨a, List.mem_cons_self, .inl hseen, fun m c hm hlt => ?_⟩
        rcases List.mem_cons.1 hm with heq | hm
        · cases heq; omega
        · have := hx _ _ hm; omega
      · rcases List.mem_cons.1 hmem with heq | hmem
        · cases heq; rfl
        · exact absurd (.inl hseen) (hfirst n a List.mem_cons_self (hx _ _ hmem))
    · rw [if_neg hseen, ih hrest]
      refine ⟨fun ⟨c, hmem, hdup, hfirst⟩ => ⟨c, List.mem_cons_of_mem _ hmem, (tail _ _ hmem).2 hdup, fun m d hm hlt => ?_⟩,
        fun ⟨c, hmem, hdup, hfirst⟩ => ?_⟩
      · rcases List.mem_cons.1 hm with heq | hm
        · cases heq
          rwa [head]
        · rw [tail _ _ hm]
          exact hfirst m d hm hlt
      · rcases List.mem_cons.1 hmem with heq | hmem
        · cases heq
          exact absurd ((head _).1 hdup) hseen
        · refine ⟨c, hmem, (tail _ _ hmem).1 hdup, fun m d hm hlt => ?_⟩
          rw [← tail _ _ hm]
          exact hfirst m d (List.mem_cons_of_mem _ hm) hlt

theorem mem_usedAddresses (b : Bank) (name : RecordName) (a : Byte) :
    (name, a) ∈ usedAddresses b ↔
      a ≠ 0 ∧ ((∃ l, name = .leg l ∧ (b.legs.get l).mode.enabled = true ∧ (b.legs.get l).address = a) ∨
        ∃ x, name = .strobe x ∧ (b.strobes.get x).address = a) := by
  simp only [usedAddresses, List.mem_append, List.mem_map, List.mem_filter, mem_allLegs, mem_allStrobes, true_and,
    Bool.and_eq_true, decide_eq_true_eq, Prod.mk.injEq]
  refine ⟨?_, ?_⟩
  · rintro (⟨l, ⟨hen, hne⟩, rfl, rfl⟩ | ⟨x, hne, rfl, rfl⟩)
    · exact ⟨hne, .inl ⟨l, rfl, hen, rfl⟩⟩
    · exact ⟨hne, .inr ⟨x, rfl, rfl⟩⟩
  · rintro ⟨hne, ⟨l, rfl, hen, rfl⟩ | ⟨x, rfl, rfl⟩⟩
    · exact .inl ⟨l, ⟨hen, hne⟩, rfl, rfl⟩
    · exact .inr ⟨x, hne, rfl, rfl⟩

theorem usedAddresses_ordered (b : Bank) : (usedAddresses b).Pairwise fun x y => x.1.place < y.1.place := by
  have all : ((allLegs.map fun l => (RecordName.leg l, (b.legs.get l).address)) ++
      allStrobes.map fun x => (RecordName.strobe x, (b.strobes.get x).address)).Pairwise
        fun x y => x.1.place < y.1.place := by
    simp only [allLegs, allStrobes, List.map_cons, List.map_nil, List.cons_append, List.nil_append, List.pairwise_cons,
      List.mem_cons, forall_eq_or_imp, List.not_mem_nil, RecordName.place]
    simp [legIndex, strobeIndex]
  exact all.sublist (.append (List.filter_sublist.map _) (List.filter_sublist.map _))

/-- A record fails V1 exactly when its address is used at an earlier place. -/
theorem failsCheck_one_iff (b : Bank) (name : RecordName) :
    FailsCheck b 1 name ↔ ∃ a, (name, a) ∈ usedAddresses b ∧ Duplicate [] (usedAddresses b) name a := by
  simp only [Duplicate, mem_usedAddresses, List.not_mem_nil, false_or]
  cases name with
  | leg l =>
    refine ⟨?_, ?_⟩
    · rintro ⟨hen, ⟨-, hne, k, hlt, hk, haddr⟩ | ⟨h, -⟩ | ⟨h, -⟩ | ⟨h, -⟩ | ⟨h, -⟩⟩
      · exact ⟨_, ⟨hne, .inl ⟨l, rfl, hen, rfl⟩⟩, .leg k, ⟨hne, .inl ⟨k, rfl, hk, haddr⟩⟩, hlt⟩
      all_goals exact absurd h (by decide)
    · rintro ⟨a, ⟨hne, ⟨l', hl, hen, rfl⟩ | ⟨x, hl, -⟩⟩, m, ⟨-, ⟨k, rfl, hk, haddr⟩ | ⟨y, rfl, -⟩⟩, hlt⟩
      · cases hl
        exact ⟨hen, .inl ⟨rfl, hne, k, hlt, hk, haddr⟩⟩
      · cases hl
        have : legIndex l < 6 := by cases l <;> decide
        exact absurd hlt (by simp only [RecordName.place]; omega)
      all_goals cases hl
  | strobe x =>
    refine ⟨?_, ?_⟩
    · rintro ⟨-, hne, ⟨k, hk, haddr⟩ | ⟨y, hlt, haddr⟩⟩
      · have : legIndex k < 6 := by cases k <;> decide
        exact ⟨_, ⟨hne, .inr ⟨x, rfl, rfl⟩⟩, .leg k, ⟨hne, .inl ⟨k, rfl, hk, haddr⟩⟩, by
          simp only [RecordName.place]; omega⟩
      · exact ⟨_, ⟨hne, .inr ⟨x, rfl, rfl⟩⟩, .strobe y, ⟨hne, .inr ⟨y, rfl, haddr⟩⟩, by
          simp only [RecordName.place]; omega⟩
    · rintro ⟨a, ⟨hne, ⟨l', hl, -⟩ | ⟨x', hl, rfl⟩⟩, m, ⟨-, ⟨k, rfl, hk, haddr⟩ | ⟨y, rfl, haddr⟩⟩, hlt⟩
      · cases hl
      · cases hl
      · cases hl
        exact ⟨rfl, hne, .inl ⟨k, hk, haddr⟩⟩
      · cases hl
        exact ⟨rfl, hne, .inr ⟨y, by simpa [RecordName.place] using hlt, haddr⟩⟩
  | prot n =>
    refine ⟨fun ⟨_, h⟩ => h.elim (fun g => absurd g.1 (by decide)) fun g => absurd g.1 (by decide), ?_⟩
    rintro ⟨a, ⟨-, ⟨l', hl, -⟩ | ⟨x', hl, -⟩⟩, -⟩ <;> cases hl
  | node =>
    refine ⟨fun h => h.elim, ?_⟩
    rintro ⟨a, ⟨-, ⟨l', hl, -⟩ | ⟨x', hl, -⟩⟩, -⟩ <;> cases hl

theorem checkV1_eq_some_iff (b : Bank) (name : RecordName) : checkV1 b = some name ↔ FirstFailure b 1 name := by
  simp only [checkV1, firstDuplicate_eq_some_iff (usedAddresses_ordered b), FirstFailure, failsCheck_one_iff]
  refine ⟨fun ⟨a, hmem, hdup, hfirst⟩ => ⟨⟨a, hmem, hdup⟩, fun other hlt ⟨c, hc, hd⟩ => hfirst other c hc hlt hd⟩,
    fun ⟨⟨a, hmem, hdup⟩, hfirst⟩ => ⟨a, hmem, hdup, fun m c hc hlt hd => hfirst m hlt ⟨c, hc, hd⟩⟩⟩

/-! ### Each check finds the first failure (R132) -/

theorem checkNumber_eq_some_iff {b : Bank} {v : Nat} (hv : v ∈ [1, 2, 3, 4, 5, 6, 7]) (name : RecordName) :
    checkNumber b v = some name ↔ FirstFailure b v name := by
  simp only [List.mem_cons, List.not_mem_nil, or_false] at hv
  rcases hv with rfl | rfl | rfl | rfl | rfl | rfl | rfl
  · exact checkV1_eq_some_iff b name
  · show checkV2 b = some name ↔ _
    unfold checkV2
    exact firstLeg_eq_some_iff (by decide) (fun l => by simp [FailsCheck]) name
  · show checkV3 b = some name ↔ _
    unfold checkV3
    exact firstLeg_eq_some_iff (by decide) (fun l => by simp [FailsCheck]) name
  · show checkV4 b = some name ↔ _
    unfold checkV4
    exact firstLeg_eq_some_iff (by decide) (fun l => by simp [FailsCheck]) name
  · show checkV5 b = some name ↔ _
    unfold checkV5
    exact firstLeg_eq_some_iff (by decide) (fun l => by simp [FailsCheck]) name
  · show checkV6 b = some name ↔ _
    unfold checkV6
    exact firstEntry_eq_some_iff (.inl rfl) (fun n => by simp [FailsCheck, LegSet.isEmpty]) name
  · show checkV7 b = some name ↔ _
    unfold checkV7
    exact firstEntry_eq_some_iff (.inr rfl) (fun n => by simp [FailsCheck]) name

theorem checkNumber_eq_none_iff {b : Bank} {v : Nat} (hv : v ∈ [1, 2, 3, 4, 5, 6, 7]) :
    checkNumber b v = none ↔ ∀ name, ¬FailsCheck b v name := by
  refine ⟨fun hnone name hfails => ?_, fun hno => ?_⟩
  · obtain ⟨first, hfirst, hmin⟩ := (measure RecordName.place).wf.has_min {n | FailsCheck b v n} ⟨name, hfails⟩
    have found := (checkNumber_eq_some_iff hv first).2 ⟨hfirst, fun other hlt hother => hmin other hother hlt⟩
    simp [hnone] at found
  · cases hc : checkNumber b v with
    | none => rfl
    | some name => exact absurd ((checkNumber_eq_some_iff hv name).1 hc).1 (hno name)

theorem checks_ordered : [1, 2, 3, 4, 5, 6, 7].Pairwise (· < ·) := by decide

theorem validate_eq_some_iff (b : Bank) (reason : Byte) (name : RecordName) :
    validate b = some (reason, name) ↔
      FirstFailure b reason.toNat name ∧ ∀ v other, v < reason.toNat → ¬FailsCheck b v other := by
  rw [validate_eq_firstCheck, Option.map_eq_some_iff]
  refine ⟨?_, fun ⟨hfirst, hbefore⟩ => ?_⟩
  · rintro ⟨⟨v, n⟩, hfound, heq⟩
    obtain ⟨hv, hcheck, hbefore⟩ := (firstCheck_eq_some_iff checks_ordered v n).1 hfound
    obtain ⟨hreason, rfl⟩ := Prod.mk.inj heq
    have hnat : reason.toNat = v := by
      rw [← hreason, BitVec.toNat_ofNat]
      simp only [List.mem_cons, List.not_mem_nil, or_false] at hv
      omega
    rw [hnat]
    refine ⟨(checkNumber_eq_some_iff hv n).1 hcheck, fun w other hlt hfails => ?_⟩
    exact (checkNumber_eq_none_iff hfails.range).1 (hbefore w hfails.range hlt) other hfails
  · have hv := hfirst.1.range
    refine ⟨(reason.toNat, name), ?_, by simp⟩
    refine (firstCheck_eq_some_iff checks_ordered _ _).2 ⟨hv, (checkNumber_eq_some_iff hv name).2 hfirst, fun w hw hlt => ?_⟩
    exact (checkNumber_eq_none_iff hw).2 fun other => hbefore w other hlt

theorem validate_eq_none_iff (b : Bank) : validate b = none ↔ ∀ v name, ¬FailsCheck b v name := by
  rw [validate_eq_firstCheck, Option.map_eq_none_iff, firstCheck_eq_none_iff]
  refine ⟨fun h v name hfails => ?_, fun h v hv => (checkNumber_eq_none_iff hv).2 (h v)⟩
  exact (checkNumber_eq_none_iff hfails.range).1 (h v hfails.range) name hfails

/-! ### What a bank that passes guarantees -/

/-- What checks V1 to V5 ask of leg `l`. -/
theorem leg_passes_iff (b : Bank) (l : LegId) :
    (∀ v, ¬FailsCheck b v (.leg l)) ↔
      ((b.legs.get l).mode.enabled = true →
        ((∀ k, legIndex k < legIndex l → (b.legs.get k).mode.enabled = true → (b.legs.get l).address ≠ 0 →
            (b.legs.get k).address ≠ (b.legs.get l).address) ∧
          (b.legs.get l).address ≠ 0 ∧ ((b.legs.get l).mode = .single → (b.legs.get l).safeState ≠ .clampLower) ∧
            ((b.legs.get l).maxOn = 0 ∨ (b.legs.get l).minOn.toNat < (b.legs.get l).maxOn.toNat) ∧
            ((b.legs.get l).gapWaitsConfirm = true → (b.legs.get l).confirmWindow ≠ 0))) := by
  refine ⟨fun h hen => ⟨fun k hlt hk hne heq => ?_, fun h0 => ?_, fun hs hc => ?_, ?_, fun hg hc => ?_⟩,
    fun h v ⟨hen, hv⟩ => ?_⟩
  · exact h 1 ⟨hen, .inl ⟨rfl, hne, k, hlt, hk, heq⟩⟩
  · exact h 2 ⟨hen, .inr (.inl ⟨rfl, h0⟩)⟩
  · exact h 3 ⟨hen, .inr (.inr (.inl ⟨rfl, hs, hc⟩))⟩
  · by_contra hno
    rw [not_or, Nat.not_lt] at hno
    exact h 4 ⟨hen, .inr (.inr (.inr (.inl ⟨rfl, hno.1, hno.2⟩)))⟩
  · exact h 5 ⟨hen, .inr (.inr (.inr (.inr ⟨rfl, hg, hc⟩)))⟩
  · obtain ⟨hdup, haddr, hsafe, hmax, hgap⟩ := h hen
    rcases hv with ⟨-, hne, k, hlt, hk, heq⟩ | ⟨-, h0⟩ | ⟨-, hs, hc⟩ | ⟨-, hm, hle⟩ | ⟨-, hg, hc⟩
    · exact hdup k hlt hk hne heq
    · exact haddr h0
    · exact hsafe hs hc
    · exact hmax.elim hm fun hlt => by omega
    · exact hgap hg hc

/-- What check V1 asks of strobe `x`. -/
theorem strobe_passes_iff (b : Bank) (x : StrobeId) :
    (∀ v, ¬FailsCheck b v (.strobe x)) ↔
      ((b.strobes.get x).address ≠ 0 →
        (∀ k, (b.legs.get k).mode.enabled = true → (b.legs.get k).address ≠ (b.strobes.get x).address) ∧
          ∀ y, strobeIndex y < strobeIndex x → (b.strobes.get y).address ≠ (b.strobes.get x).address) := by
  refine ⟨fun h hne => ⟨fun k hk heq => h 1 ⟨rfl, hne, .inl ⟨k, hk, heq⟩⟩,
    fun y hlt heq => h 1 ⟨rfl, hne, .inr ⟨y, hlt, heq⟩⟩⟩, fun h v ⟨_, hne, hv⟩ => ?_⟩
  obtain ⟨hlegs, hstrobes⟩ := h hne
  exact hv.elim (fun ⟨k, hk, heq⟩ => hlegs k hk heq) fun ⟨y, hlt, heq⟩ => hstrobes y hlt heq

/-- What checks V6 and V7 ask of protection entry `n`. -/
theorem prot_passes_iff (b : Bank) (n : ChanId) :
    (∀ v, ¬FailsCheck b v (.prot n)) ↔
      ((b.prot.get n).use = .active →
        ((b.prot.get n).action = .tripLegs →
          (∃ l, (b.prot.get n).legs.get l = true) ∧
            ∀ l, (b.prot.get n).legs.get l = true → (b.legs.get l).mode.enabled = true) ∧
          ((b.prot.get n).action = .haltNode → (b.prot.get n).latch = .latched)) := by
  refine ⟨fun h huse => ⟨fun hact => ⟨?_, fun l hl => ?_⟩, fun hact => ?_⟩, fun h v ⟨huse, hv⟩ => ?_⟩
  · by_contra hno
    exact h 6 ⟨huse, .inl ⟨rfl, hact, .inl fun l => by simpa using not_exists.1 hno l⟩⟩
  · by_contra hno
    exact h 6 ⟨huse, .inl ⟨rfl, hact, .inr ⟨l, hl, by simpa using hno⟩⟩⟩
  · cases hlatch : (b.prot.get n).latch with
    | latched => rfl
    | auto => exact absurd ⟨huse, .inr ⟨rfl, hact, hlatch⟩⟩ (h 7)
  · obtain ⟨htrip, hhalt⟩ := h huse
    rcases hv with ⟨-, hact, hempty | ⟨l, hl, hdis⟩⟩ | ⟨-, hact, hauto⟩
    · obtain ⟨l, hl⟩ := (htrip hact).1
      simp [hempty l] at hl
    · simp [(htrip hact).2 l hl] at hdis
    · simp [hhalt hact] at hauto

theorem passes_iff_records (b : Bank) :
    validate b = none ↔
      (∀ l v, ¬FailsCheck b v (.leg l)) ∧ (∀ x v, ¬FailsCheck b v (.strobe x)) ∧ ∀ n v, ¬FailsCheck b v (.prot n) := by
  rw [validate_eq_none_iff]
  refine ⟨fun h => ⟨fun _ v => h v _, fun _ v => h v _, fun _ v => h v _⟩, fun ⟨hleg, hstrobe, hprot⟩ v name => ?_⟩
  cases name with
  | leg l => exact hleg l v
  | strobe x => exact hstrobe x v
  | prot n => exact hprot n v
  | node => exact id

/-- Settles O55: the checks record by record, and the first failure. -/
theorem validationMakesTheSevenChecks : Obligations.ValidationMakesTheSevenChecks := by
  refine ⟨fun b => ?_, fun b reason name => ?_⟩
  · simp only [passes_iff_records, leg_passes_iff, strobe_passes_iff, prot_passes_iff]
    refine ⟨fun ⟨hleg, hstrobe, hprot⟩ => ⟨fun l k hl hk hne heq => ?_, fun x y hne heq => ?_, fun l x hl hne heq => ?_,
      fun l hl => (hleg l hl).2, hprot⟩, fun ⟨hlegs, hstrobes, hmixed, hleg, hprot⟩ =>
        ⟨fun l hl => ⟨fun k hlt hk hne heq => ?_, hleg l hl⟩, fun x hne => ⟨fun k hk heq => ?_, fun y hlt heq => ?_⟩, hprot⟩⟩
    · rcases Nat.lt_trichotomy (legIndex l) (legIndex k) with hlt | hsame | hlt
      · exact absurd heq ((hleg k hk).1 l hlt hl (heq ▸ hne))
      · exact legIndex_injective hsame
      · exact absurd heq.symm ((hleg l hl).1 k hlt hk hne)
    · rcases Nat.lt_trichotomy (strobeIndex x) (strobeIndex y) with hlt | hsame | hlt
      · exact absurd heq ((hstrobe y (heq ▸ hne)).2 x hlt)
      · exact strobeIndex_injective hsame
      · exact absurd heq.symm ((hstrobe x hne).2 y hlt)
    · exact (hstrobe x (heq ▸ hne)).1 l hl heq
    · rw [hlegs l k hl hk hne heq.symm] at hlt
      exact absurd hlt (Nat.lt_irrefl _)
    · exact hmixed k x hk (heq ▸ hne) heq
    · rw [hstrobes x y hne heq.symm] at hlt
      exact absurd hlt (Nat.lt_irrefl _)
  · rw [validate_eq_some_iff, FirstFailure, and_assoc]

/-- Settles O33: in a bank that passes, the search finds the one record that holds the address. -/
theorem entriesClaimTheirDestination : Obligations.EntriesClaimTheirDestination := by
  intro b a hvalid
  obtain ⟨hlegs, hstrobes, hmixed, hleg, -⟩ := (validationMakesTheSevenChecks.1 b).1 hvalid
  have noLeg (h : ∀ l, (b.legs.get l).mode.enabled = true → (b.legs.get l).address ≠ a) :
      (allLegs.find? fun l => (b.legs.get l).mode.enabled && decide ((b.legs.get l).address = a)) = none := by
    rw [List.find?_eq_none]
    intro l _
    simpa using h l
  refine ⟨if_pos rfl, fun l hen haddr => ?_, fun x haddr hne => ?_, fun hnoLeg hnoStrobe => ?_⟩
  · have hne : a ≠ 0 := haddr ▸ (hleg l hen).1
    have found : (allLegs.find? fun k => (b.legs.get k).mode.enabled && decide ((b.legs.get k).address = a)) = some l := by
      refine (find?_eq_some_iff_of_ordered legIndex legs_ordered l).2 ⟨mem_allLegs l, by simp [hen, haddr], fun k _ hlt => ?_⟩
      rw [Bool.eq_false_iff, Ne, Bool.and_eq_true, decide_eq_true_eq]
      rintro ⟨hk, hka⟩
      rw [hlegs l k hen hk (haddr ▸ hne) (haddr.trans hka.symm)] at hlt
      exact absurd hlt (Nat.lt_irrefl _)
    rw [claimant, if_neg hne, found]
  · have none := noLeg fun k hk hka => hmixed k x hk (hka ▸ hne) (hka.trans haddr.symm)
    have found : (allStrobes.find? fun y => decide ((b.strobes.get y).address = a)) = some x := by
      refine (find?_eq_some_iff_of_ordered strobeIndex (by decide) x).2 ⟨mem_allStrobes x, by simp [haddr], fun y _ hlt => ?_⟩
      rw [Bool.eq_false_iff, Ne, decide_eq_true_eq]
      intro hya
      rw [hstrobes x y (haddr ▸ hne) (haddr.trans hya.symm)] at hlt
      exact absurd hlt (Nat.lt_irrefl _)
    rw [claimant, if_neg hne, none, found]
    rfl
  · have found : (allStrobes.find? fun y => decide ((b.strobes.get y).address = a)) = none := by
      rw [List.find?_eq_none]
      intro x _
      simpa using hnoStrobe x
    unfold claimant
    split
    · rfl
    · rw [noLeg hnoLeg, found]
      rfl

end Sys2Proof.Machine
end

section
/-! PROOF. Decoding an entry: the four tests of Table 14, the schedule entries it expands to, and their placing (R51 to
R58). -/

namespace Sys2Proof.Machine

/-! ### The tests (Table 14) -/

theorem kindMismatch_iff (d : Dest) (e : Entry) : kindMismatch d e.kind = true ↔ FailsKind d e := by
  cases d <;> exact decide_eq_true_iff

theorem badTarget_iff (b : Bank) (d : Dest) (e : Entry) : badTarget b d e = true ↔ FailsTarget b d e := by
  cases d <;> simp [badTarget, FailsTarget]

theorem badOffset_iff (period : Half) (e : Entry) : badOffset period e = true ↔ FailsOffset period e := by
  unfold badOffset FailsOffset
  cases e.kind <;> simp

theorem badWidth_iff (period : Half) (e : Entry) : badWidth period e = true ↔ FailsWidth period e := by
  unfold badWidth FailsWidth
  cases e.kind <;> simp

/-! ### What an entry expands to (Table 15) -/

/-- The parts of an entry, by its kind. -/
theorem expand_eq {b : Bank} {d : Dest} {mark : Time} {number period : Half} {e : Entry} {first : SchedEntry}
    (hfirst : first =
      { due :=
          mark +
            (if e.kind = .centred then BitVec.ofNat 32 ((period.toNat - e.width.toNat) / 2) else e.offset.setWidth 32)
        work := workOf d e.target, source := number, part := .one }) :
    expand b d mark number period e =
      if e.kind = .pulse ∨ e.kind = .centred then
        [first,
          { due := first.due + e.width.setWidth 32, work := complementWork b d e.target, source := number
            part := .two }]
      else [first] := by
  unfold expand
  rw [hfirst]
  cases e.kind <;> simp

theorem decodeEntry_of_unclaimed {mark : Time} {number period : Half} {index : Nat} {e : Entry} {s : State}
    (h : claimant s.activeBank e.address = none) :
    decodeEntry mark number period index e s = s.countEntries fun k => { k with unclaimed := satInc k.unclaimed } := by
  rw [decodeEntry, h]

theorem decodeEntry_of_fault {mark : Time} {number period : Half} {index : Nat} {e : Entry} {s : State} {d : Dest}
    {r : RejectReason} (h : claimant s.activeBank e.address = some d) (hr : entryFault s.activeBank d period e = some r) :
    decodeEntry mark number period index e s = rejectEntry number index r e s := by
  rw [decodeEntry, h]
  simp only [hr]

theorem decodeEntry_of_passing {mark : Time} {number period : Half} {index : Nat} {e : Entry} {s : State} {d : Dest}
    (h : claimant s.activeBank e.address = some d) (hr : entryFault s.activeBank d period e = none) :
    decodeEntry mark number period index e s =
      if 64 - s.esu.schedule.length +
          supersededCount (expand s.activeBank d mark number period e) s.esu.schedule <
            (expand s.activeBank d mark number period e).length then
        rejectEntry number index .scheduleFull e s
      else
        ((expand s.activeBank d mark number period e).foldl (fun t p => placePart p t) s).countEntries fun k =>
          { k with placed := satInc k.placed } := by
  rw [decodeEntry, h]
  simp only [hr]
  rfl

/-! ### Placing a schedule entry (R56, R58) -/

/-- An entry is inserted behind those due no later, and before one due later. -/
theorem insertEntry_position (now : Time) (e : SchedEntry) (es : List SchedEntry) :
    ∃ before after, insertEntry now e es = before ++ e :: after ∧ (∀ x ∈ before, aheadOf now x ≤ aheadOf now e) ∧
      ∀ x rest, after = x :: rest → aheadOf now e < aheadOf now x := by
  induction es with
  | nil => exact ⟨[], [], rfl, fun x hx => absurd hx (by simp), fun x rest h => absurd h (by simp)⟩
  | cons y ys ih =>
    obtain ⟨before, after, hsplit, hbefore, hafter⟩ := ih
    rw [insertEntry]
    split
    · next hle =>
      refine ⟨y :: before, after, by rw [hsplit]; rfl, fun x hx => ?_, hafter⟩
      rcases List.mem_cons.1 hx with rfl | hx
      · exact hle
      · exact hbefore x hx
    · next hlt =>
      refine ⟨[], y :: ys, rfl, fun x hx => absurd hx (by simp), fun x rest h => ?_⟩
      cases h
      exact Nat.lt_of_not_le hlt

theorem supersedes_eq (e x : SchedEntry) : supersedes e x = decide (x.work.dest = e.work.dest ∧ x.due = e.due) := by
  rw [supersedes, Bool.decide_and]

/-- As many entries leave a list as are not kept. -/
theorem length_sub_filter_not {α : Type} (p : α → Bool) (xs : List α) :
    xs.length - (xs.filter fun x => !p x).length = (xs.filter p).length := by
  have := List.length_eq_length_filter_add (l := xs) p
  omega

/-- Settles O34: the decode by claimant, test and room; then each part's place. -/
theorem entriesArePlacedWholeOrNotAtAll : Obligations.EntriesArePlacedWholeOrNotAtAll := by
  refine ⟨fun mark number period index e s => ⟨decodeEntry_of_unclaimed, fun d hd =>
    ⟨fun r hr => decodeEntry_of_fault hd hr, fun hr parts first hfirst hparts => ?_⟩⟩, fun b d period e => ?_,
    fun b l x t => ⟨rfl, rfl, fun h => ?_, fun _ => rfl, fun h => ?_⟩, ?_⟩
  · have hexpand : expand s.activeBank d mark number period e = parts := (expand_eq hfirst).trans hparts.symm
    rw [decodeEntry_of_passing hd hr, hexpand]
    exact ⟨fun hroom => if_neg (Nat.not_lt.2 hroom), fun hfull => if_pos hfull⟩
  · simp only [← kindMismatch_iff, ← badTarget_iff, ← badOffset_iff, ← badWidth_iff, entryFault]
    refine ⟨fun h => if_pos h, fun h1 h2 => ?_, fun h1 h2 h3 => ?_, fun h1 h2 h3 h4 => ?_, fun h1 h2 h3 h4 => ?_⟩
    · rw [if_neg h1, if_pos h2]
    · rw [if_neg h1, if_neg h2, if_pos h3]
    · rw [if_neg h1, if_neg h2, if_neg h3, if_pos h4]
    · rw [if_neg h1, if_neg h2, if_neg h3, if_neg h4]
  · simp [complementWork, complement, h]
  · simp [complementWork, complement, h]
  · rintro e s t rfl
    simp only [← supersedes_eq]
    refine ⟨rfl, insertEntry_perm _ _ _, ?_, fun hord => ?_, insertEntry_position _ _ _⟩
    · rw [← length_sub_filter_not]
      rfl
    · rw [dueOrdered_iff] at hord ⊢
      exact insertEntry_ordered e (hord.sublist List.filter_sublist)

end Sys2Proof.Machine
end

section
/-! PROOF. What the FBM makes of a leg operation: the monitors follow the outputs, and "watches replaced" counts the
open watches that a changed output replaces (R26, R75). -/

namespace Sys2Proof.Machine

/-! ### Saturating counters (0.7.4) -/

@[simp] theorem satAdd_zero (c : Half) : satAdd c 0 = c := by
  apply BitVec.eq_of_toNat_eq
  simp only [satAdd, BitVec.toNat_ofNat]
  omega

theorem satAdd_satAdd (c : Half) (x y : Nat) : satAdd (satAdd c x) y = satAdd c (x + y) := by
  apply BitVec.eq_of_toNat_eq
  simp only [satAdd, BitVec.toNat_ofNat]
  omega

/-! ### One commanded change (R75) -/

/-- Whether a monitor is an open watch. -/
def Monitor.isWatch : Monitor → Bool
  | .watching _ _ _ => true
  | _ => false

/-- One watch more is counted as replaced. -/
def countReplaced (s : State) : State :=
  s.countFeedback fun k => { k with watchesReplaced := satInc k.watchesReplaced }

/-- The FBM's answer to a commanded change, the idle monitor apart. -/
theorem fbmCommand_of_not_idle {l : LegId} {sw : Switch} {s : State} (h : s.monitor l sw ≠ .idle) (v : Bool) :
    fbmCommand l sw v s =
      (if decide ((s.legParams l).confirmWindow ≠ 0) && (s.monitor l sw).isWatch then countReplaced s else s).setMonitor l
        sw (monitorAfter (s.legParams l) (s.monitor l sw) (s.feedbackOn l sw) v s.now) := by
  unfold fbmCommand monitorAfter
  cases hm : s.monitor l sw with
  | idle => exact absurd hm h
  | _ => by_cases hw : (s.legParams l).confirmWindow = 0#10 <;> simp [hw, Monitor.isWatch, countReplaced]

theorem fbmCommand_of_idle {l : LegId} {sw : Switch} {s : State} (h : s.monitor l sw = .idle) (v : Bool) :
    fbmCommand l sw v s = s := by
  simp [fbmCommand, h]

theorem monitor_fbmCommand (l : LegId) (sw : Switch) (v : Bool) (s : State) :
    (fbmCommand l sw v s).monitor l sw =
      monitorAfter (s.legParams l) (s.monitor l sw) (s.feedbackOn l sw) v s.now := by
  by_cases h : s.monitor l sw = .idle
  · rw [fbmCommand_of_idle h, h]
    rfl
  · rw [fbmCommand_of_not_idle h, monitor_setMonitor_same]

theorem watches_fbmCommand (l : LegId) (sw : Switch) (v : Bool) (s : State) :
    (fbmCommand l sw v s).fbm.counters.watchesReplaced =
      satAdd s.fbm.counters.watchesReplaced
        (decide ((s.legParams l).confirmWindow ≠ 0) && (s.monitor l sw).isWatch).toNat := by
  by_cases h : s.monitor l sw = .idle
  · rw [fbmCommand_of_idle h, h]
    simp [Monitor.isWatch]
  · rw [fbmCommand_of_not_idle h]
    cases decide ((s.legParams l).confirmWindow ≠ 0) && (s.monitor l sw).isWatch with
    | false => exact (satAdd_zero _).symm
    | true => rfl

theorem monitor_fbmCommand_other (l : LegId) {sw sx : Switch} (h : sx ≠ sw) (v : Bool) (s : State) :
    (fbmCommand l sw v s).monitor l sx = s.monitor l sx := by
  unfold fbmCommand
  split
  · rfl
  · split
    · rw [monitor_setMonitor, if_neg fun hx => h hx.2]
    · rw [monitor_setMonitor, if_neg fun hx => h hx.2]
      split <;> rfl

/-- The monitors of the switches not commanded, and the readings a command goes by, stay. -/
theorem SameButLegs.feedbackOn {s t : State} (h : SameButLegs s t) (l : LegId) (sw : Switch) :
    t.feedbackOn l sw = s.feedbackOn l sw := by
  rw [State.feedbackOn, State.feedbackOn, h.legParams, h.pins]

section
variable (l : LegId) (sw : Switch) (b : Bool) (s : State)

theorem monitor_reportChange :
    (reportChange l sw b s).monitor l sw =
      if s.commanded l sw = b then s.monitor l sw
      else monitorAfter (s.legParams l) (s.monitor l sw) (s.feedbackOn l sw) (s.commanded l sw) s.now := by
  unfold reportChange
  split
  · rfl
  · exact monitor_fbmCommand l sw _ s

theorem watches_reportChange :
    (reportChange l sw b s).fbm.counters.watchesReplaced =
      satAdd s.fbm.counters.watchesReplaced
        (decide (s.commanded l sw ≠ b) && decide ((s.legParams l).confirmWindow ≠ 0) &&
          (s.monitor l sw).isWatch).toNat := by
  unfold reportChange
  split
  · next h => simp [h]
  · next h => rw [watches_fbmCommand, decide_eq_true h, Bool.true_and]

theorem monitor_reportChange_other {sx : Switch} (h : sx ≠ sw) :
    (reportChange l sw b s).monitor l sx = s.monitor l sx := by
  unfold reportChange
  split
  · rfl
  · exact monitor_fbmCommand_other l h _ s

@[simp] theorem commanded_reportChange (k : LegId) (sx : Switch) :
    (reportChange l sw b s).commanded k sx = s.commanded k sx := by
  simp [State.commanded, State.leg]

end

/-! ### What an operation on one leg reports -/

/-- From `s` to `t` leg `l`'s record has changed, its monitors follow its outputs, and the open watches replaced are
counted; no counter of the LGE has changed. -/
structure LegReported (l : LegId) (s t : State) : Prop where
  frame : LegFrame l s t
  follow : MonitorsFollow l s t
  watches : WatchesReplaced l s t
  counters : t.lge.counters = s.lge.counters

theorem watchReplaced_eq (l : LegId) (sw : Switch) (s t : State) :
    watchReplaced l sw s t =
      (decide (t.commanded l sw ≠ s.commanded l sw) && decide ((s.legParams l).confirmWindow ≠ 0) &&
        (s.monitor l sw).isWatch) := by
  unfold watchReplaced Monitor.isWatch
  cases s.monitor l sw <;> rfl

theorem watchReplaced_of_same {l : LegId} {sw : Switch} {s t : State} (h : t.commanded l sw = s.commanded l sw) :
    watchReplaced l sw s t = false := by
  simp [watchReplaced_eq, h]

namespace LegReported

variable {l : LegId} {s t u : State}

/-- A change that neither the outputs nor the monitors see. -/
theorem setLeg {x : Leg} (h : ∀ sw, x.cond.drives sw = (s.leg l).cond.drives sw) : LegReported l s (s.setLeg l x) := by
  have same (sw : Switch) : (s.setLeg l x).commanded l sw = s.commanded l sw := by rw [commanded_setLeg, h]; rfl
  refine ⟨.setLeg l x s, fun sw => by rw [if_pos (same sw)]; rfl, ?_, rfl⟩
  rw [WatchesReplaced, watchReplaced_of_same (same _), watchReplaced_of_same (same _)]
  exact (satAdd_zero _).symm

theorem refl (l : LegId) (s : State) : LegReported l s s := by
  have h : LegReported l s (s.setLeg l (s.leg l)) := setLeg fun _ => rfl
  rwa [State.setLeg, State.leg, PerLeg.set_get_same] at h

/-- A reported replacement of the leg's record (R26). -/
theorem putLeg (l : LegId) (x : Leg) (s : State) : LegReported l s (putLeg l x s) := by
  have upper := (LegFrame.setLeg l x s).blocks.trans (reportChange_same l .upper (s.commanded l .upper) (s.setLeg l x))
  have hcmd (k : LegId) (sw : Switch) :
      (reportChange l .upper (s.commanded l .upper) (s.setLeg l x)).commanded k sw = (s.setLeg l x).commanded k sw :=
    commanded_reportChange ..
  refine ⟨.putLeg l x s, fun sw => ?_, ?_, by rw [lge_putLeg]; rfl⟩
  · cases sw with
    | upper =>
      rw [commanded_putLeg, Machine.putLeg, monitor_reportChange_other l .lower _ _ (by simp), monitor_reportChange,
        commanded_setLeg]
      rfl
    | lower =>
      rw [commanded_putLeg, Machine.putLeg, monitor_reportChange, hcmd, commanded_setLeg,
        monitor_reportChange_other l .upper _ _ (by simp), upper.legParams, upper.feedbackOn, upper.now]
      rfl
  · rw [WatchesReplaced, watchReplaced_eq, watchReplaced_eq, commanded_putLeg, commanded_putLeg, Machine.putLeg,
      watches_reportChange, watches_reportChange, satAdd_satAdd, hcmd, commanded_setLeg, commanded_setLeg,
      monitor_reportChange_other l .upper _ _ (by simp), upper.legParams]
    rfl

/-- Two operations one after another, of which at most one changes each output. -/
theorem trans (h : LegReported l s t) (g : LegReported l t u)
    (once : ∀ sw, t.commanded l sw = s.commanded l sw ∨ u.commanded l sw = t.commanded l sw) : LegReported l s u := by
  have hp := h.frame.blocks.legParams l
  have hn := h.frame.blocks.now
  refine ⟨h.frame.trans g.frame, fun sw => ?_, ?_, g.counters.trans h.counters⟩
  · have hm := h.follow sw
    have gm := g.follow sw
    rcases once sw with hsame | hsame
    · rw [if_pos hsame] at hm
      rw [gm, hsame, hm, hp, hn, h.frame.blocks.feedbackOn]
    · rw [if_pos hsame] at gm
      rw [gm, hsame, hm]
  · have each (sw : Switch) : (watchReplaced l sw s u).toNat =
        (watchReplaced l sw s t).toNat + (watchReplaced l sw t u).toNat := by
      rcases once sw with hsame | hsame
      · have hm : t.monitor l sw = s.monitor l sw := by rw [h.follow sw, if_pos hsame]
        rw [watchReplaced_of_same hsame, watchReplaced_eq, watchReplaced_eq, hsame, hm, hp]
        simp
      · rw [watchReplaced_of_same hsame, watchReplaced_eq, watchReplaced_eq, hsame]
        simp
    rw [WatchesReplaced, g.watches, h.watches, satAdd_satAdd, each .upper, each .lower]
    congr 1
    omega

/-- An operation after one that changes no output. -/
theorem after_setLeg {x : Leg} (hx : ∀ sw, x.cond.drives sw = (s.leg l).cond.drives sw)
    (g : LegReported l (s.setLeg l x) u) : LegReported l s u :=
  (setLeg hx).trans g fun sw => .inl (by rw [commanded_setLeg, hx]; rfl)

theorem judgeLeg (l : LegId) (s : State) : LegReported l s (judgeLeg l s) := by
  unfold Machine.judgeLeg
  dsimp only
  split
  · split
    · exact putLeg l _ s
    · exact refl l s
  · split
    · exact putLeg l _ s
    · exact refl l s
  · exact refl l s

end LegReported

end Sys2Proof.Machine
end

section
/-! PROOF. The Leg Engine's operations: requests, forces, causes, and the ends of gaps, settlings and on-times (R23 to R44). -/

namespace Sys2Proof.Machine

/-! ### The conditions of a turn-on (R23) -/

theorem awaitedSwitch_eq (m : LegMode) (sw : Switch) :
    awaitedSwitch m sw = if m = .single then .upper else otherSwitch sw := by
  cases m <;> rfl

theorem awaitsOff_eq_false_iff (m : Monitor) : m.awaitsOff = false ↔ ∀ c d, m ≠ .watching false c d := by
  cases m with
  | watching e c d => cases e <;> simp [Monitor.awaitsOff]
  | _ => simp [Monitor.awaitsOff]

theorem confirmMet_iff (l : LegId) (sw : Switch) (s : State) : confirmMet l sw s = true ↔ ConfirmMet l sw s := by
  rw [confirmMet, ConfirmMet, Bool.or_eq_true, Bool.not_eq_true', Bool.not_eq_true', awaitsOff_eq_false_iff,
    awaitedSwitch_eq]

theorem sumReached_iff (l : LegId) (sw : Switch) (s : State) :
    sumReached s.now (s.leg l) (deadOf (s.legParams l) sw) = true ↔ DeadTimeOver l sw s := by
  rw [sumReached, DeadTimeOver, Bool.or_eq_true]

theorem targetSwitch_eq_some_iff (t : Target) (sw : Switch) :
    targetSwitch t = some sw ↔ (t = .upper ∧ sw = .upper) ∨ (t = .lower ∧ sw = .lower) := by
  cases t <;> cases sw <;> simp [targetSwitch]

/-! ### Judging a turn-on (R32, R43) -/

section
variable {l : LegId} {s : State}

theorem setLeg_of_eq {x : Leg} (h : x = s.leg l) : s.setLeg l x = s := by
  rw [h, State.setLeg, State.leg, PerLeg.set_get_same]
  rfl

theorem judgeLeg_of_gap {sw : Switch} {e : Time} (hc : (s.leg l).cond = .gap sw e true) :
    judgeLeg l s =
      if confirmMet l sw s then putLeg l { s.leg l with cond := onCond (s.legParams l) sw s.now } s else s := by
  simp only [judgeLeg, hc]

theorem judgeLeg_of_settling {cs : Causes} {sw : Switch} {e : Time}
    (hc : (s.leg l).cond = .safe cs (.settling e true) (some sw)) :
    judgeLeg l s =
      if confirmMet l sw s then putLeg l { s.leg l with cond := .safe cs .clamped (some sw) } s else s := by
  simp only [judgeLeg, hc]

theorem leg_judgeLeg_of_gap {sw : Switch} {e : Time} {r : Bool} (hc : (s.leg l).cond = .gap sw e r) :
    (judgeLeg l s).leg l =
      if r && confirmMet l sw s then { s.leg l with cond := onCond (s.legParams l) sw s.now } else s.leg l := by
  cases r with
  | false => simp only [judgeLeg, hc, Bool.false_and]; rfl
  | true =>
    rw [judgeLeg_of_gap hc, Bool.true_and]
    split
    · rw [leg_putLeg_same]
    · rfl

theorem leg_judgeLeg_of_settling {cs : Causes} {sw : Switch} {e : Time} {r : Bool}
    (hc : (s.leg l).cond = .safe cs (.settling e r) (some sw)) :
    (judgeLeg l s).leg l =
      if r && confirmMet l sw s then { s.leg l with cond := .safe cs .clamped (some sw) } else s.leg l := by
  cases r with
  | false => simp only [judgeLeg, hc, Bool.false_and]; rfl
  | true =>
    rw [judgeLeg_of_settling hc, Bool.true_and]
    split
    · rw [leg_putLeg_same]
    · rfl

/-! ### Requests (R28 to R31) -/

theorem modeRefuses_eq_false {t : Target} {m : LegMode} (hm : m ≠ .disabled) (hs : m = .single → t ≠ .lower) :
    ¬modeRefuses m t = true := by
  rw [modeRefuses_iff]
  rintro (h | ⟨h, ht⟩)
  · exact hm h
  · exact hs h ht

/-- A request for OFF on a leg in OFF or GAP. -/
theorem requestLeg_off_of_open (hm : ¬modeRefuses (s.legParams l).mode .off = true)
    (hc : (s.leg l).cond = .off ∨ ∃ p e r, (s.leg l).cond = .gap p e r) :
    requestLeg l .off s = s.setLeg l { s.leg l with cond := .off } := by
  rw [requestLeg, if_neg hm]
  rcases hc with hc | ⟨p, e, r, hc⟩
  · have hself : s.setLeg l { s.leg l with cond := .off } = s := setLeg_of_eq (by rw [← hc])
    simp only [hc, targetSwitch, hself]
  · simp only [hc, targetSwitch]

/-- A request for a switch on a leg in OFF or GAP. -/
theorem requestLeg_of_open {t : Target} {sw : Switch} (hm : ¬modeRefuses (s.legParams l).mode t = true)
    (hc : (s.leg l).cond = .off ∨ ∃ p e r, (s.leg l).cond = .gap p e r) (ht : targetSwitch t = some sw) :
    requestLeg l t s = requestTurnOn l sw s := by
  rw [requestLeg, if_neg hm]
  rcases hc with hc | ⟨p, e, r, hc⟩ <;> simp only [hc, ht]

theorem drives_open (hc : (s.leg l).cond = .off ∨ ∃ p e r, (s.leg l).cond = .gap p e r) (sw : Switch) :
    (s.leg l).cond.drives sw = false := by
  rcases hc with hc | ⟨p, e, r, hc⟩ <;> rw [hc] <;> rfl

theorem requestTurnOn_reported (hc : (s.leg l).cond = .off ∨ ∃ p e r, (s.leg l).cond = .gap p e r) (sw : Switch) :
    LegReported l s (requestTurnOn l sw s) := by
  refine .after_setLeg (x := gapToward (s.legParams l) sw s.now (s.leg l)) (fun k => ?_) (.judgeLeg l _)
  rw [drives_open hc]
  rfl

theorem leg_requestTurnOn (sw : Switch) :
    (requestTurnOn l sw s).leg l =
      if sumReached s.now (s.leg l) (deadOf (s.legParams l) sw) && confirmMet l sw s then
        { s.leg l with cond := onCond (s.legParams l) sw s.now }
      else gapToward (s.legParams l) sw s.now (s.leg l) := by
  have hjudged := leg_judgeLeg_of_gap (l := l) (s := s.setLeg l (gapToward (s.legParams l) sw s.now (s.leg l)))
    (by rw [leg_setLeg_same]; rfl)
  rw [leg_setLeg_same] at hjudged
  exact hjudged

end

/-- Settles O20: a request for a switch is a gap judged at once. -/
theorem requestsFromOffAndGap : Obligations.RequestsFromOffAndGap := by
  intro l s hmode hc
  refine ⟨requestLeg_off_of_open (modeRefuses_eq_false hmode fun _ => by simp) hc, fun sw t hsingle ht => ?_⟩
  have hadmit : ¬modeRefuses (s.legParams l).mode t = true := modeRefuses_eq_false hmode fun hs hlow => by
    rw [hsingle hs, hlow] at ht
    cases ht
  have hreq : requestLeg l t s = requestTurnOn l sw s := requestLeg_of_open hadmit hc ht
  obtain ⟨hframe, hfollow, hwatches, hcounters⟩ := requestTurnOn_reported hc sw
  have hturn : (sumReached s.now (s.leg l) (deadOf (s.legParams l) sw) && confirmMet l sw s) = true ↔
      DeadTimeOver l sw s ∧ ConfirmMet l sw s := by
    rw [Bool.and_eq_true, sumReached_iff, confirmMet_iff]
  rw [hreq, leg_requestTurnOn]
  refine ⟨hframe, hfollow, hwatches, hcounters, fun hd hm => if_pos (hturn.2 ⟨hd, hm⟩), fun hno => ?_⟩
  exact ⟨sumReached s.now (s.leg l) (deadOf (s.legParams l) sw), sumReached_iff l sw s, if_neg (mt hturn.1 hno)⟩

/-! ### Requests on a conducting leg (R29, R30) -/

section
variable {l : LegId} {s : State} {side : Switch} {since : Time} {maxEnd : Option Time} {deferred : Option Target}

theorem requestLeg_of_deferred {t : Target} {e : Time} (hm : ¬modeRefuses (s.legParams l).mode t = true)
    (hc : (s.leg l).cond = .on side since (some e) maxEnd deferred) :
    requestLeg l t s = requestDeferred l side since e maxEnd deferred t s := by
  rw [requestLeg, if_neg hm]
  simp only [hc]

theorem requestLeg_of_elapsed {t : Target} (hm : ¬modeRefuses (s.legParams l).mode t = true)
    (hc : (s.leg l).cond = .on side since none maxEnd deferred) : requestLeg l t s = requestElapsed l side t s := by
  rw [requestLeg, if_neg hm]
  simp only [hc]

theorem requestDeferred_eq (e : Time) (t : Target) :
    requestDeferred l side since e maxEnd deferred t s =
      (if deferred = none then s
        else s.countLegs fun k => { k with deferredReplaced := satInc k.deferredReplaced }).setLeg l
        { s.leg l with
          cond := .on side since (some e) maxEnd (if targetSwitch t = some side then none else some t) } := by
  cases deferred <;> rfl

/-- A judged leg drives what it drove, or the switch its gap waited for. -/
theorem commanded_judgeLeg_of_gap {sw : Switch} {e : Time} {r : Bool} (hc : (s.leg l).cond = .gap sw e r) {k : Switch}
    (hk : k ≠ sw) : (judgeLeg l s).commanded l k = s.commanded l k := by
  rw [State.commanded, State.commanded, leg_judgeLeg_of_gap hc]
  split
  · rw [hc]
    exact decide_eq_false fun h => hk h.symm
  · rfl

/-- The other side's request: the conducting switch off first, then the gap judged. -/
theorem requestOther_reported (hc : (s.leg l).cond = .on side since none maxEnd deferred) {sw : Switch} (hne : sw ≠ side) :
    LegReported l s
      (judgeLeg l (putLeg l (gapToward (s.legParams l) sw s.now (Leg.offAt s.now .off)) s)) := by
  refine (LegReported.putLeg l _ s).trans (.judgeLeg l _) fun k => ?_
  by_cases hk : k = sw
  · left
    rw [commanded_putLeg, State.commanded, hc, hk]
    exact (decide_eq_false fun h => hne h.symm).symm
  · right
    exact commanded_judgeLeg_of_gap (by rw [leg_putLeg_same]; rfl) hk

theorem deadOf_lt (p : LegRecord) (sw : Switch) : (deadOf p sw).toNat < 1024 := by
  cases sw
  · exact lt_of_eq_of_lt (BitVec.toNat_setWidth_of_le (by decide)) p.deadUpper.isLt
  · exact lt_of_eq_of_lt (BitVec.toNat_setWidth_of_le (by decide)) p.deadLower.isLt

/-- From a turn-off now, a dead time is over at once exactly when it is 0. -/
theorem sumReached_offAt (now : Time) (c : LegCond) (p : LegRecord) (sw : Switch) :
    sumReached now (Leg.offAt now c) (deadOf p sw) = decide (deadOf p sw = 0) := by
  have hlt := deadOf_lt p sw
  rw [sumReached, Leg.offAt, Bool.false_or, reached, decide_eq_decide]
  bv_omega

end

/-- Settles O21: before MIN-ON-END the request is stored; after it, by the target. -/
theorem requestsOnConductingLegs : Obligations.RequestsOnConductingLegs := by
  intro l side since maxEnd deferred t s hmode
  have hadmit : ¬modeRefuses (s.legParams l).mode t = true := by
    rcases hmode with hm | ⟨hm, ht⟩
    · exact modeRefuses_eq_false (by simp [hm]) fun h => by simp [hm] at h
    · exact modeRefuses_eq_false (by simp [hm]) fun _ => ht
  refine ⟨fun e hc => (requestLeg_of_deferred hadmit hc).trans (requestDeferred_eq e t), fun hc => ?_⟩
  rw [requestLeg_of_elapsed hadmit hc]
  refine ⟨fun ht => ?_, fun ht => ?_, fun sw ht hne => ?_⟩
  · simp only [requestElapsed, ht, if_true]
  · rw [ht]
    obtain ⟨hframe, hfollow, hwatches, hcounters⟩ := LegReported.putLeg l (Leg.offAt s.now .off) s
    exact ⟨hframe, hfollow, hwatches, hcounters, leg_putLeg_same ..⟩
  · have hreq : requestElapsed l side t s =
        judgeLeg l (putLeg l (gapToward (s.legParams l) sw s.now (Leg.offAt s.now .off)) s) := by
      simp only [requestElapsed, ht, if_neg hne]
    obtain ⟨hframe, hfollow, hwatches, hcounters⟩ := requestOther_reported hc hne
    have same := putLeg_same l (gapToward (s.legParams l) sw s.now (Leg.offAt s.now .off)) s
    have hleg := leg_judgeLeg_of_gap (l := l) (s := putLeg l (gapToward (s.legParams l) sw s.now (Leg.offAt s.now .off)) s)
      (by rw [leg_putLeg_same]; rfl)
    rw [leg_putLeg_same, same.legParams, same.now] at hleg
    rw [hreq, hleg]
    refine ⟨hframe, hwatches, hcounters, by split <;> rfl, fun hdead => ⟨?_, hfollow⟩, fun hdead hwait => ?_⟩
    · have hnot : sumReached s.now (Leg.offAt s.now .off) (deadOf (s.legParams l) sw) = false := by
        rw [sumReached_offAt, decide_eq_false hdead]
      rw [hnot, Bool.false_and, if_neg (by simp), gapToward, hnot]
      rfl
    · have hreached : sumReached s.now (Leg.offAt s.now .off) (deadOf (s.legParams l) sw) = true := by
        rw [sumReached_offAt, decide_eq_true hdead]
      have hmet : confirmMet l sw (putLeg l (gapToward (s.legParams l) sw s.now (Leg.offAt s.now .off)) s) = true := by
        rw [confirmMet_iff]
        exact .inl (by rw [same.legParams]; exact hwait)
      rw [hreached, hmet]
      rfl

end Sys2Proof.Machine
end

section
/-! PROOF. Forces and causes on a leg (R40, R42 to R44), and the ends of its gaps, settlings and on-times (R32 to R35, R43). -/

namespace Sys2Proof.Machine

/-! ### Forces (R40) -/

theorem ChanSet.get_single (n k : ChanId) : (ChanSet.single n).get k = decide (k = n) := by
  cases n <;> cases k <;> rfl

section
variable {l : LegId} {s : State}

/-- The channels that hold the leg in HELD-OFF. -/
def LegCond.heldBy : LegCond → ChanSet
  | .heldOff h => h
  | _ => ChanSet.empty

theorem LegReported.forceLeg (n : ChanId) (l : LegId) (s : State) : LegReported l s (forceLeg n l s) := by
  unfold Machine.forceLeg
  split
  · cases hc : (s.leg l).cond with
    | safe a b c => exact .refl l s
    | on a b c d e => exact .putLeg l _ s
    | heldOff h => exact .setLeg fun sw => by rw [hc]; rfl
    | off => exact .setLeg fun sw => by rw [hc]; rfl
    | gap a b c => exact .setLeg fun sw => by rw [hc]; rfl
  · exact .refl l s

theorem forceLeg_of_untouched {n : ChanId} (h : s.legEnabled l = false ∨ (s.leg l).cond.isSafe = true) :
    forceLeg n l s = s := by
  unfold forceLeg
  split
  · next hen =>
    have hsafe := h.resolve_left (by simp [hen])
    cases hc : (s.leg l).cond with
    | safe a b c => rfl
    | _ => simp [hc, LegCond.isSafe] at hsafe
  · rfl

theorem leg_forceLeg {n : ChanId} (hen : s.legEnabled l = true) (hsafe : (s.leg l).cond.isSafe = false) :
    ∃ held, (forceLeg n l s).leg l = Leg.offAt s.now (.heldOff held) ∧
      ∀ k, held.get k = (decide (k = n) || (s.leg l).cond.heldBy.get k) := by
  have hempty (k : ChanId) : (ChanSet.single n).get k = (decide (k = n) || ChanSet.empty.get k) := by
    rw [ChanSet.get_single, ChanSet.empty, PerChan.get_tabulate, Bool.or_false]
  rw [forceLeg, if_pos hen]
  cases hc : (s.leg l).cond with
  | safe a b c => simp [hc, LegCond.isSafe] at hsafe
  | on a b c d e => exact ⟨_, leg_putLeg_same .., hempty⟩
  | off => exact ⟨_, leg_setLeg_same .., hempty⟩
  | gap a b c => exact ⟨_, leg_setLeg_same .., hempty⟩
  | heldOff h =>
    refine ⟨_, leg_setLeg_same .., fun k => ?_⟩
    rw [PerChan.get_set]
    by_cases hk : k = n <;> simp [hk, LegCond.heldBy]

end

/-- Settles O22, by what a force order makes of the leg's record. -/
theorem forceHoldsTheLegOff : Obligations.ForceHoldsTheLegOff := by
  intro n l s
  refine ⟨forceLeg_of_untouched, fun hen hsafe => ?_⟩
  obtain ⟨hframe, hfollow, hwatches, hcounters⟩ := LegReported.forceLeg n l s
  obtain ⟨held, hleg, hheld⟩ := leg_forceLeg (n := n) hen hsafe
  refine ⟨hframe, hfollow, hwatches, hcounters, held, hleg, fun k => ?_⟩
  rw [hheld k]
  cases (s.leg l).cond <;> first | rfl | (cases k <;> rfl)

/-! ### Causes (R42 to R44) -/

section
variable {l : LegId} {s : State} {x : LegCause}

theorem LegReported.suppressClamp (l : LegId) (s : State) : LegReported l s (suppressClamp l s) := by
  unfold Machine.suppressClamp
  split
  · exact .putLeg l _ s
  · next hc => exact .setLeg fun sw => by rw [hc]; rfl
  · exact .refl l s

theorem cond_suppressClamp {cs : Causes} {p : SafePhase} {k : Option Switch} (hc : (s.leg l).cond = .safe cs p k) :
    ((suppressClamp l s).leg l).cond = .safe cs .opened k := by
  unfold suppressClamp
  cases p <;> simp [hc, Leg.offAt]

theorem addCause_of_disabled {b : Bool} (hen : s.legEnabled l = false) : addCause l x b s = s := by
  rw [addCause, if_neg (by simp [hen])]

theorem addCause_of_safe {b : Bool} (hen : s.legEnabled l = true) {cs : Causes} {p : SafePhase} {k : Option Switch}
    (hc : (s.leg l).cond = .safe cs p k) :
    addCause l x b s =
      if b then suppressClamp l (s.setLeg l { s.leg l with cond := .safe (cs.add x) p k })
      else s.setLeg l { s.leg l with cond := .safe (cs.add x) p k } := by
  rw [addCause, if_pos hen]
  simp only [hc]

/-- Whether a leg that enters SAFE is treated as having no clamp (R44). -/
def clampOff (b : Bool) (s : State) : Bool := b || s.ncu.state.forbidsClamp

theorem addCause_of_not_safe {b : Bool} (hen : s.legEnabled l = true) (hc : (s.leg l).cond.isSafe = false) :
    addCause l x b s =
      judgeLeg l (putLeg l
        (safeEntry (s.legParams l) s.now (Causes.empty.add x) (clampSwitch (s.legParams l).safeState) (clampOff b s)
          (s.leg l)) s) := by
  rw [addCause, if_pos hen]
  cases h : (s.leg l).cond with
  | safe a b c => simp [h, LegCond.isSafe] at hc
  | _ => rfl

theorem drives_of_not_safe {c : LegCond} (hc : c.isSafe = false) (k : Switch) : c.drives k = decide (c.side = some k) := by
  cases c with
  | safe a b c => simp [LegCond.isSafe] at hc
  | on side a m e d => simp [LegCond.drives, LegCond.side]
  | _ => simp [LegCond.drives, LegCond.side]

theorem judgeLeg_of_opened {cs : Causes} {k : Option Switch} (hc : (s.leg l).cond = .safe cs .opened k) :
    judgeLeg l s = s := by
  simp only [judgeLeg, hc]

theorem judgeLeg_of_clamped {cs : Causes} {k : Option Switch} (hc : (s.leg l).cond = .safe cs .clamped k) :
    judgeLeg l s = s := by
  simp only [judgeLeg, hc]

/-- A leg that enters SAFE without a clamp, or with its clamp suppressed. -/
theorem addCause_opened {b : Bool} (hen : s.legEnabled l = true) (hc : (s.leg l).cond.isSafe = false)
    (h : clampOff b s = true ∨ clampSwitch (s.legParams l).safeState = none) :
    addCause l x b s =
      putLeg l
        { (s.leg l).stopped s.now with
          cond := .safe (Causes.empty.add x) .opened (clampSwitch (s.legParams l).safeState) } s := by
  rw [addCause_of_not_safe hen hc, safeEntry_opened _ _ _ _ h, judgeLeg_of_opened (by rw [leg_putLeg_same])]

/-- A leg that enters SAFE with its clamp switch conducting. -/
theorem addCause_clamped {b : Bool} {sw : Switch} (hen : s.legEnabled l = true) (hc : (s.leg l).cond.isSafe = false)
    (hoff : clampOff b s = false) (hk : clampSwitch (s.legParams l).safeState = some sw)
    (hside : (s.leg l).cond.side = some sw) :
    addCause l x b s =
      putLeg l { s.leg l with cond := .safe (Causes.empty.add x) .clamped (some sw) } s := by
  rw [addCause_of_not_safe hen hc, hoff, hk, safeEntry_clamped _ _ _ _ hside, judgeLeg_of_clamped (by rw [leg_putLeg_same])]

/-- The record of a leg on its way into its clamp (R42, R43). -/
def settlingLeg (p : LegRecord) (now : Time) (cs : Causes) (sw : Switch) (x : Leg) : Leg :=
  { x with cond := .safe cs (.settling (x.lastOff + deadOf p sw) (sumReached now x (deadOf p sw))) (some sw) }

theorem addCause_settling {b : Bool} {sw : Switch} (hen : s.legEnabled l = true) (hc : (s.leg l).cond.isSafe = false)
    (hoff : clampOff b s = false) (hk : clampSwitch (s.legParams l).safeState = some sw)
    (hside : (s.leg l).cond.side ≠ some sw) :
    addCause l x b s =
      judgeLeg l (putLeg l (settlingLeg (s.legParams l) s.now (Causes.empty.add x) sw ((s.leg l).stopped s.now)) s) := by
  rw [addCause_of_not_safe hen hc, hoff, hk, safeEntry_settling _ _ _ _ hside]
  rfl

theorem LegReported.addCause (l : LegId) (x : LegCause) (b : Bool) (s : State) :
    LegReported l s (addCause l x b s) := by
  by_cases hen : s.legEnabled l = true
  · by_cases hsafe : (s.leg l).cond.isSafe = true
    · cases hc : (s.leg l).cond with
      | safe cs p k =>
        have drives (sw : Switch) : (LegCond.safe (cs.add x) p k).drives sw = (s.leg l).cond.drives sw := by
          rw [hc, drives_safe_causes]
        rw [addCause_of_safe hen hc]
        split
        · exact .after_setLeg drives (.suppressClamp l _)
        · exact .setLeg drives
      | _ => simp [hc, LegCond.isSafe] at hsafe
    · have hout : (s.leg l).cond.isSafe = false := by simpa using hsafe
      by_cases hopen : clampOff b s = true ∨ clampSwitch (s.legParams l).safeState = none
      · rw [addCause_opened hen hout hopen]
        exact .putLeg l _ s
      · obtain ⟨hoff, hsome⟩ := not_or.1 hopen
        obtain ⟨sw, hk⟩ := Option.ne_none_iff_exists'.1 hsome
        by_cases hside : (s.leg l).cond.side = some sw
        · rw [addCause_clamped hen hout (by simpa using hoff) hk hside]
          exact .putLeg l _ s
        · rw [addCause_settling hen hout (by simpa using hoff) hk hside]
          refine (LegReported.putLeg l _ s).trans (.judgeLeg l _) fun k => ?_
          by_cases hsw : k = sw
          · left
            rw [commanded_putLeg, State.commanded, drives_of_not_safe hout, hsw, decide_eq_false hside]
            rfl
          · right
            rw [State.commanded, State.commanded, leg_judgeLeg_of_settling (by rw [leg_putLeg_same]; rfl), leg_putLeg_same]
            split
            · exact decide_eq_false fun h => hsw h.symm
            · rfl
  · rw [addCause_of_disabled (by simpa using hen)]
    exact .refl l s

theorem stopped_of_off {y : Leg} {now : Time} (h : y.cond.side = none) : y.stopped now = y := if_pos h

theorem stopped_of_on {y : Leg} {now : Time} {sw : Switch} (h : y.cond.side = some sw) :
    y.stopped now = Leg.offAt now .off := if_neg (by simp [h])

theorem side_eq_some_iff (c : LegCond) (sw : Switch) : c.side = some sw ↔ ∃ a m d f, c = .on sw a m d f := by
  cases c <;> simp [LegCond.side]

theorem forbidsClamp_iff (n : NodeState) : n.forbidsClamp = true ↔ n = .standby ∨ n = .unaddressed := by
  cases n <;> simp [NodeState.forbidsClamp]

theorem clampOff_iff (b : Bool) (s : State) :
    clampOff b s = true ↔ b = true ∨ s.ncu.state = .standby ∨ s.ncu.state = .unaddressed := by
  rw [clampOff, Bool.or_eq_true, forbidsClamp_iff]

/-- What the leg's record is once it has settled, or settles on (R43). -/
theorem leg_addCause_settling {b : Bool} {sw : Switch} (hen : s.legEnabled l = true)
    (hc : (s.leg l).cond.isSafe = false) (hoff : clampOff b s = false)
    (hk : clampSwitch (s.legParams l).safeState = some sw) (hside : (s.leg l).cond.side ≠ some sw) :
    ∃ met, (addCause l x b s).leg l =
        { (s.leg l).stopped s.now with
          cond := .safe (Causes.empty.add x)
            (if sumReached s.now ((s.leg l).stopped s.now) (deadOf (s.legParams l) sw) && met then .clamped
              else .settling (((s.leg l).stopped s.now).lastOff + deadOf (s.legParams l) sw)
                (sumReached s.now ((s.leg l).stopped s.now) (deadOf (s.legParams l) sw))) (some sw) } ∧
      ((s.leg l).cond.side = none → (met = true ↔ ConfirmMet l sw s)) := by
  refine ⟨confirmMet l sw (putLeg l (settlingLeg (s.legParams l) s.now (Causes.empty.add x) sw
    ((s.leg l).stopped s.now)) s), ?_, fun hnone => ?_⟩
  · rw [addCause_settling hen hc hoff hk hside, leg_judgeLeg_of_settling (by rw [leg_putLeg_same]; rfl), leg_putLeg_same]
    split <;> rfl
  · have reported := LegReported.putLeg l (settlingLeg (s.legParams l) s.now (Causes.empty.add x) sw
      ((s.leg l).stopped s.now)) s
    have same (k : Switch) : (putLeg l (settlingLeg (s.legParams l) s.now (Causes.empty.add x) sw
        ((s.leg l).stopped s.now)) s).monitor l k = s.monitor l k := by
      rw [reported.follow k, if_pos]
      rw [commanded_putLeg, State.commanded, drives_of_not_safe hc, hnone]
      rfl
    rw [confirmMet_iff, ConfirmMet, same, reported.frame.blocks.legParams]
    rfl

end

/-- Settles O24: in SAFE the cause joins; else the leg enters SAFE opened, clamped or settling. -/
theorem causesTakeTheLegToSafe : Obligations.CausesTakeTheLegToSafe := by
  intro l x suppress s
  refine ⟨addCause_of_disabled, fun hen => ?_⟩
  obtain ⟨hframe, -, hwatches, hcounters⟩ := LegReported.addCause l x suppress s
  refine ⟨hframe, hwatches, hcounters, fun cs p k hc => ⟨fun hsup => ?_, fun hsup => ?_⟩, fun hout => ?_⟩
  · rw [addCause_of_safe hen hc, hsup]
    rfl
  · rw [addCause_of_safe hen hc, if_pos hsup]
    exact cond_suppressClamp (by rw [leg_setLeg_same])
  · by_cases hopen : clampOff suppress s = true ∨ clampSwitch (s.legParams l).safeState = none
    · refine ⟨.opened, by rw [addCause_opened hen hout hopen, leg_putLeg_same], fun _ => rfl,
        fun hsup hstandby hun sw hk => ?_⟩
      rcases hopen with hoff | hnone
      · exact absurd ((clampOff_iff _ _).1 hoff) (by simp [hsup, hstandby, hun])
      · simp [hk] at hnone
    · obtain ⟨hoff, hsome⟩ := not_or.1 hopen
      have hoff' : clampOff suppress s = false := by simpa using hoff
      obtain ⟨sw, hk⟩ := Option.ne_none_iff_exists'.1 hsome
      have notOpen {P : Prop} (h : suppress = true ∨ s.ncu.state = .standby ∨ s.ncu.state = .unaddressed ∨
          (s.legParams l).safeState = .allOff) : P := by
        rcases h with h | h | h | h
        · exact absurd ((clampOff_iff _ _).2 (.inl h)) hoff
        · exact absurd ((clampOff_iff _ _).2 (.inr (.inl h))) hoff
        · exact absurd ((clampOff_iff _ _).2 (.inr (.inr h))) hoff
        · simp [h, clampSwitch] at hk
      by_cases hside : (s.leg l).cond.side = some sw
      · have hclamped := addCause_clamped (x := x) hen hout hoff' hk hside
        refine ⟨.clamped, by rw [hclamped, leg_putLeg_same, hk], notOpen, fun _ _ _ k hk' => ?_⟩
        obtain rfl : sw = k := Option.some.inj (hk.symm.trans hk')
        refine ⟨fun _ => ⟨rfl, by rw [hclamped, leg_putLeg_same]⟩, fun _ hno => ?_, fun hother => ?_⟩
        · obtain ⟨a, m, d, f, hon⟩ := (side_eq_some_iff _ _).1 hside
          exact absurd hon (hno a m d f)
        · rw [(side_eq_some_iff _ _).2 hother] at hside
          cases sw <;> simp [otherSwitch] at hside
      · obtain ⟨met, hleg, hmet⟩ := leg_addCause_settling (x := x) hen hout hoff' hk hside
        refine ⟨_, by rw [hleg, hk], notOpen, fun _ _ _ k hk' => ?_⟩
        obtain rfl : sw = k := Option.some.inj (hk.symm.trans hk')
        refine ⟨fun hon => absurd ((side_eq_some_iff _ _).2 hon) hside, fun hno₁ hno₂ => ?_, fun hother => ?_⟩
        · have hnone : (s.leg l).cond.side = none := by
            cases h : (s.leg l).cond.side with
            | none => rfl
            | some k =>
              obtain ⟨a, m, d, f, hon⟩ := (side_eq_some_iff _ _).1 h
              cases k <;> cases sw
              · exact absurd hon (hno₂ a m d f)
              · exact absurd hon (hno₁ a m d f)
              · exact absurd hon (hno₁ a m d f)
              · exact absurd hon (hno₂ a m d f)
          rw [hleg, stopped_of_off hnone]
          refine ⟨rfl, fun hnot => ?_, fun hover hconfirm => ?_⟩
          · have hsum : sumReached s.now (s.leg l) (deadOf (s.legParams l) sw) = false := by
              rw [Bool.eq_false_iff, Ne, sumReached_iff]
              exact hnot
            rw [hsum]
            rfl
          · rw [(sumReached_iff l sw s).2 hover, (hmet hnone).2 hconfirm]
            rfl
        · have hstop := stopped_of_on (now := s.now) ((side_eq_some_iff _ _).2 hother)
          rw [hleg, hstop, sumReached_offAt]
          refine ⟨rfl, fun hdead => ?_⟩
          rw [decide_eq_false hdead]
          rfl

/-! ### The ends of gaps and settlings (R32, R43) -/

theorem confirmMet_setLeg (l : LegId) (sw : Switch) (x : Leg) (s : State) :
    confirmMet l sw (s.setLeg l x) = confirmMet l sw s := rfl

/-- Settles O40: the end is found reached, and the turn-on judged. -/
theorem gapAndSettleEndsTurnTheSwitchOn : Obligations.GapAndSettleEndsTurnTheSwitchOn := by
  intro l sw e s hreach
  refine ⟨fun hc => ?_, fun cs hc => ?_⟩
  · have hexec : exec (.gapEnd l) s = .next (judgeLeg l (s.setLeg l { s.leg l with cond := .gap sw e true })) := by
      show Host.Outcome.next _ = _
      simp only [hc, hreach, if_true]
    have hjudge := judgeLeg_of_gap (l := l) (s := s.setLeg l { s.leg l with cond := .gap sw e true }) (sw := sw) (e := e)
      (by rw [leg_setLeg_same])
    rw [confirmMet_setLeg] at hjudge
    refine ⟨fun hmet => ⟨_, hexec, ?_⟩, fun hno => ?_⟩
    · have reported : LegReported l s (judgeLeg l (s.setLeg l { s.leg l with cond := .gap sw e true })) :=
        .after_setLeg (fun k => by rw [hc]; rfl) (.judgeLeg l _)
      obtain ⟨hframe, hfollow, hwatches, hcounters⟩ := reported
      refine ⟨hframe, hfollow, hwatches, hcounters, ?_⟩
      rw [hjudge, if_pos ((confirmMet_iff l sw _).2 hmet), leg_putLeg_same, leg_setLeg_same]
      rfl
    · rw [hexec, hjudge, if_neg (mt (confirmMet_iff l sw _).1 hno)]
  · have hexec : exec (.settleEnd l) s =
        .next (judgeLeg l (s.setLeg l { s.leg l with cond := .safe cs (.settling e true) (some sw) })) := by
      show Host.Outcome.next _ = _
      simp only [hc, hreach, if_true]
    have hjudge := judgeLeg_of_settling (l := l)
      (s := s.setLeg l { s.leg l with cond := .safe cs (.settling e true) (some sw) }) (cs := cs) (sw := sw) (e := e)
      (by rw [leg_setLeg_same])
    rw [confirmMet_setLeg] at hjudge
    refine ⟨fun hmet => ⟨_, hexec, ?_⟩, fun hno => ?_⟩
    · have reported : LegReported l s
          (judgeLeg l (s.setLeg l { s.leg l with cond := .safe cs (.settling e true) (some sw) })) :=
        .after_setLeg (fun k => by rw [hc]; rfl) (.judgeLeg l _)
      obtain ⟨hframe, hfollow, hwatches, hcounters⟩ := reported
      refine ⟨hframe, hfollow, hwatches, hcounters, ?_⟩
      rw [hjudge, if_pos ((confirmMet_iff l sw _).2 hmet), leg_putLeg_same, leg_setLeg_same]
    · rw [hexec, hjudge, if_neg (mt (confirmMet_iff l sw _).1 hno)]

/-! ### The ends of on-times (R33 to R35) -/

/-- Settles O41: the two events, by DEFERRED and by OVERLONG-ACTION. -/
theorem onTimeEndsActOnTheLeg : Obligations.OnTimeEndsActOnTheLeg := by
  refine ⟨fun l side since e maxEnd deferred s t hc hreach ht => ?_, fun l side since e minEnd deferred s hc hreach => ?_⟩
  · refine ⟨fun hd => ?_, fun target hd => ?_⟩ <;>
    · show Host.Outcome.next _ = _
      simp only [hc, hreach, if_true, ht, hd]
  · obtain ⟨hframe, hfollow, hwatches, hcounters⟩ := LegReported.putLeg l (Leg.offAt s.now .off) s
    refine ⟨_, hframe, hfollow, hwatches, hcounters, leg_putLeg_same .., fun hact => ?_, fun hact => ?_⟩ <;>
    · show Host.Outcome.next _ = _
      simp only [hc, hreach, if_true, hact]

end Sys2Proof.Machine
end

section
/-! PROOF. Orders for all legs: the coast order (R39, R67), and the halt orders with what they record and how the monitors
start (R114, R119 to R121). -/

namespace Sys2Proof.Machine

/-! ### Operations on one leg that the orders use -/

section
variable {l : LegId} {s : State}

theorem LegReported.stopLeg (l : LegId) (s : State) : LegReported l s (stopLeg l s) := by
  unfold Machine.stopLeg
  split
  · exact .putLeg l _ s
  · next hc => exact .setLeg fun sw => by rw [hc]; rfl
  · exact .refl l s

theorem leg_stopLeg_of_on {sd : Switch} {a : Time} {m d : Option Time} {f : Option Target}
    (hc : (s.leg l).cond = .on sd a m d f) : (stopLeg l s).leg l = Leg.offAt s.now .off := by
  simp only [stopLeg, hc, leg_putLeg_same]

theorem leg_stopLeg_of_gap {p : Switch} {e : Time} {r : Bool} (hc : (s.leg l).cond = .gap p e r) :
    (stopLeg l s).leg l = { s.leg l with cond := .off } := by
  simp only [stopLeg, hc, leg_setLeg_same]

theorem stopLeg_of_rest (h : (s.leg l).cond.inert = true ∨ (s.leg l).cond.isSafe = true) : stopLeg l s = s := by
  unfold stopLeg
  cases hc : (s.leg l).cond with
  | on a b c d e => simp [hc, LegCond.inert, LegCond.isSafe] at h
  | gap a b c => simp [hc, LegCond.inert, LegCond.isSafe] at h
  | _ => rfl

/-- Counters of the LGE that no pass of a loop changes. -/
theorem legCounters_forLegs {f : LegId → State → State} (h : ∀ l t, (f l t).lge.counters = t.lge.counters) (s : State) :
    (forLegs f s).lge.counters = s.lge.counters :=
  forLegs_keeps (P := fun t => t.lge.counters = s.lge.counters) (fun l t ht => (h l t).trans ht) rfl

end

/-! ### The coast order (R39, R67) -/

/-- The coast order's pass for one leg. -/
def coastLeg (l : LegId) (t : State) : State := if (t.legParams l).coast = .off then stopLeg l t else t

theorem coastLegs_eq (s : State) : coastLegs s = forLegs coastLeg s := rfl

theorem LegReported.coastLeg (l : LegId) (s : State) : LegReported l s (coastLeg l s) := by
  unfold Machine.coastLeg
  split
  · exact .stopLeg l s
  · exact .refl l s

theorem coastOrder_eq {s : State} {keep : SchedEntry → Bool}
    (h : ∀ e, keep e =
      match e.work with
      | .leg l _ => decide ((s.legParams l).coast = .hold)
      | .strobe _ => true) :
    coastOrder s = coastLegs (discardEntries keep .coast s) := by
  have hkeep : keep = fun e : SchedEntry =>
      match e.work with
      | .leg l _ => decide ((s.activeBank.legs.get l).coast ≠ .off)
      | .strobe _ => true := by
    funext e
    rw [h]
    cases e.work with
    | leg l t =>
      show decide ((s.activeBank.legs.get l).coast = .hold) = decide ((s.activeBank.legs.get l).coast ≠ .off)
      cases (s.activeBank.legs.get l).coast <;> rfl
    | strobe x => rfl
  rw [hkeep]
  rfl

/-- Settles O36: the discard event, then the legs one by one. -/
theorem coastOrdersStopTheOffLegs : Obligations.CoastOrdersStopTheOffLegs := by
  intro s d keep hkeep hd
  have legs := coastLegs_same d
  have hdls : d.lge = s.lge := by rw [hd, lge_discardEntries]
  have hparams (l : LegId) : d.legParams l = s.legParams l := by
    rw [State.legParams, State.legParams, State.activeBank, State.activeBank, hd, bks_discardEntries]
  have hnow : d.now = s.now := by rw [State.now, State.now, hd, ctu_discardEntries]
  rw [coastOrder_eq hkeep, ← hd, legs.esu, legs.rpu, legs.edgeCounts, legs.ncu, legs.pru, legs.bks]
  refine ⟨by rw [hd, schedule_discardEntries], rfl, rfl, rfl, by rw [hd, pulses_discardEntries],
    (hd ▸ discardEntries_outside keep .coast s).trans legs.outside, by rw [hd, ncu_discardEntries],
    by rw [hd, pru_discardEntries], by rw [hd, bks_discardEntries], ?_, fun l => ?_⟩
  · rw [coastLegs_eq, legCounters_forLegs (fun l t => (LegReported.coastLeg l t).counters), hdls]
  · obtain ⟨t, same, hleg, -, hloop, -⟩ := forLegs_leg (s := d) (fun l t => (LegReported.coastLeg l t).frame) l
    have htleg : t.leg l = s.leg l := by rw [hleg, State.leg, hdls]; rfl
    have htparams : t.legParams l = s.legParams l := (same.legParams l).trans (hparams l)
    have htnow : t.now = s.now := same.now.trans hnow
    rw [coastLegs_eq, hloop, coastLeg, htparams]
    refine ⟨fun hold => by rw [if_neg (by simp [hold]), htleg], fun hoff => ?_⟩
    rw [if_pos hoff]
    refine ⟨fun sd a m e f hc => ?_, fun p e r hc => ?_, fun hrest => ?_⟩
    · rw [leg_stopLeg_of_on (by rw [htleg, hc]), htnow]
      rfl
    · rw [leg_stopLeg_of_gap (by rw [htleg, hc]), htleg]
    · rw [stopLeg_of_rest (by rw [htleg]; exact hrest), htleg]

/-! ### Causes added by an order -/

/-- A cause added to an enabled leg: it is in SAFE, holding the cause beside those it held (R42). -/
theorem cond_addCause {l : LegId} {x : LegCause} {b : Bool} {s : State} (hen : s.legEnabled l = true) :
    ((addCause l x b s).leg l).cond.isSafe = true ∧
      ((addCause l x b s).leg l).cond.causes = (s.leg l).cond.causes.add x := by
  obtain ⟨-, -, -, hsafe, hout⟩ := (causesTakeTheLegToSafe l x b s).2 hen
  by_cases h : (s.leg l).cond.isSafe = true
  · cases hc : (s.leg l).cond with
    | safe cs p k =>
      obtain ⟨hplain, hsup⟩ := hsafe cs p k hc
      cases b with
      | false => rw [hplain rfl, leg_setLeg_same]; exact ⟨rfl, rfl⟩
      | true => rw [hsup rfl]; exact ⟨rfl, rfl⟩
    | _ => simp [hc, LegCond.isSafe] at h
  · obtain ⟨p, hp, -⟩ := hout (by simpa using h)
    rw [hp]
    refine ⟨rfl, ?_⟩
    cases hc : (s.leg l).cond with
    | safe cs p k => simp [hc, LegCond.isSafe] at h
    | _ => rfl

/-- A plain cause leaves the phase of a leg in SAFE (R42). -/
theorem cond_addCause_of_safe {l : LegId} {x : LegCause} {s : State} (hen : s.legEnabled l = true) {cs : Causes}
    {p : SafePhase} {k : Option Switch} (hc : (s.leg l).cond = .safe cs p k) :
    ((addCause l x false s).leg l).cond = .safe (cs.add x) p k := by
  obtain ⟨-, -, -, hsafe, -⟩ := (causesTakeTheLegToSafe l x false s).2 hen
  rw [(hsafe cs p k hc).1 rfl, leg_setLeg_same]

theorem Causes.add_of_has {cs : Causes} {x : LegCause} (h : cs.has x = true) : cs.add x = cs := by
  cases x with
  | fi n =>
    have hset : cs.fi.set n true = cs.fi := by
      rw [← show cs.fi.get n = true from h]
      cases n <;> rfl
    rw [Causes.add, hset]
  | confirm => rw [Causes.add, ← show cs.confirm = true from h]
  | overlong => rw [Causes.add, ← show cs.overlong = true from h]
  | nodeHalt => rw [Causes.add, ← show cs.nodeHalt = true from h]

theorem SameButLegs.legEnabled {s t : State} (h : SameButLegs s t) (l : LegId) : t.legEnabled l = s.legEnabled l := by
  rw [State.legEnabled, State.legEnabled, h.legParams]

/-- The halt order's pass for one leg (R46). -/
def haltLeg (l : LegId) (t : State) : State :=
  if (t.leg l).cond.causes.has .nodeHalt then t else addCause l .nodeHalt false t

theorem haltLegs_eq (s : State) : haltLegs s = forLegs haltLeg s := rfl

theorem LegReported.haltLeg (l : LegId) (s : State) : LegReported l s (haltLeg l s) := by
  unfold Machine.haltLeg
  split
  · exact .refl l s
  · exact .addCause l _ _ s

/-- What NODE-HALT makes of the legs (R46). -/
theorem leg_haltLegs (l : LegId) (s : State) :
    ((s.legEnabled l = false ∨ (s.leg l).cond.causes.has .nodeHalt = true) → (haltLegs s).leg l = s.leg l) ∧
      (s.legEnabled l = true →
        ((haltLegs s).leg l).cond.isSafe = true ∧
          ((haltLegs s).leg l).cond.causes = (s.leg l).cond.causes.add .nodeHalt ∧
          ∀ cs p k, (s.leg l).cond = .safe cs p k → ((haltLegs s).leg l).cond = .safe (cs.add .nodeHalt) p k) := by
  obtain ⟨t, same, hleg, -, hloop, -⟩ := forLegs_leg (s := s) (fun l t => (LegReported.haltLeg l t).frame) l
  have hen := same.legEnabled l
  rw [haltLegs_eq, hloop, haltLeg, hleg]
  by_cases hhas : (s.leg l).cond.causes.has .nodeHalt = true
  · rw [if_pos hhas, hleg]
    refine ⟨fun _ => rfl, fun _ => ?_⟩
    cases hc : (s.leg l).cond with
    | safe cs p k =>
      have hadd : cs.add .nodeHalt = cs := Causes.add_of_has (by simpa [hc, LegCond.causes] using hhas)
      refine ⟨rfl, hadd.symm, fun cs' p' k' h => ?_⟩
      cases h
      rw [hadd]
    | _ => simp [hc, LegCond.causes, Causes.empty, Causes.has] at hhas
  · rw [if_neg hhas]
    refine ⟨fun h => ?_, fun henabled => ?_⟩
    · rw [addCause_of_disabled (by rw [hen]; exact h.resolve_right hhas), hleg]
    · have ht : t.legEnabled l = true := hen.trans henabled
      obtain ⟨hsafe, hcauses⟩ := cond_addCause (x := .nodeHalt) (b := false) ht
      refine ⟨hsafe, by rw [hcauses, hleg], fun cs p k hc => cond_addCause_of_safe ht (by rw [hleg, hc])⟩

/-! ### The start of the monitors (R74, R85) -/

/-- From `s` to `t` only the monitors have changed. -/
def MonitorsOnly (s t : State) : Prop := t = s.setFbm { s.fbm with monitors := t.fbm.monitors }

theorem MonitorsOnly.refl (s : State) : MonitorsOnly s s := rfl

theorem MonitorsOnly.setMonitor {s t : State} (h : MonitorsOnly s t) (l : LegId) (sw : Switch) (m : Monitor) :
    MonitorsOnly s (t.setMonitor l sw m) := by
  unfold MonitorsOnly at h ⊢
  rw [h]
  rfl

/-- A loop over the legs, followed pass by pass. -/
theorem forLegs_steps {I : Nat → State → Prop} {f : LegId → State → State} {s : State}
    (h : ∀ l t, I (legIndex l) t → I (legIndex l + 1) (f l t)) (h0 : I 0 s) : I 6 (forLegs f s) := by
  rw [forLegs_eq]
  exact h .l5 _ (h .l4 _ (h .l3 _ (h .l2 _ (h .l1 _ (h .l0 _ h0)))))

/-- A loop that sets every monitor, each from what it was before. -/
theorem forSwitches_sets {f : LegId → Switch → State → State} {g : LegId → Switch → Monitor} {s : State}
    (h : ∀ l sw t, MonitorsOnly s t → t.monitor l sw = s.monitor l sw → f l sw t = t.setMonitor l sw (g l sw)) :
    MonitorsOnly s (forSwitches f s) ∧ ∀ l sw, (forSwitches f s).monitor l sw = g l sw := by
  have steps := forLegs_steps (f := fun l t => f l .lower (f l .upper t)) (s := s)
    (I := fun n t => MonitorsOnly s t ∧
      ∀ k sw, t.monitor k sw = if legIndex k < n then g k sw else s.monitor k sw)
    (fun l t ⟨only, hm⟩ => ?_) ⟨.refl s, fun _ _ => rfl⟩
  · refine ⟨steps.1, fun l sw => (steps.2 l sw).trans (if_pos ?_)⟩
    cases l <;> decide
  · have hself (sw : Switch) : t.monitor l sw = s.monitor l sw := (hm l sw).trans (if_neg (Nat.lt_irrefl _))
    have hupper := h l .upper t only (hself .upper)
    have hlower := h l .lower _ (only.setMonitor l .upper (g l .upper))
      (by rw [monitor_setMonitor, if_neg (by simp), hself])
    rw [hupper, hlower]
    refine ⟨(only.setMonitor ..).setMonitor .., fun k sw => ?_⟩
    rw [monitor_setMonitor, monitor_setMonitor, hm]
    by_cases hk : k = l
    · subst hk
      rw [if_pos (Nat.lt_succ_self _)]
      cases sw <;> simp
    · have hne : legIndex k ≠ legIndex l := fun h => hk (legIndex_injective h)
      rw [if_neg fun h => hk h.1, if_neg fun h => hk h.1]
      exact if_congr (by omega) rfl rfl

theorem setMonitor_self (l : LegId) (sw : Switch) (s : State) : s.setMonitor l sw (s.monitor l sw) = s := by
  rw [State.setMonitor, State.monitor, PerSwitch.set_get_same, PerLeg.set_get_same]
  rfl

theorem monitored_iff (l : LegId) (sw : Switch) (s : State) :
    monitored l sw s = true ↔
      s.ncu.state.monitors = true ∧ MonitoredSide (s.legParams l).mode sw ∧ (s.legParams l).confirmWindow ≠ 0 := by
  rw [monitored, recordMonitors, Bool.and_eq_true, Bool.and_eq_true, decide_eq_true_iff, MonitoredSide]
  cases (s.legParams l).mode <;> simp

/-- What the monitor of a switch starts as: QUIET, or FILTERING where the input disagrees (R74, R85). -/
def startedMonitor (l : LegId) (sw : Switch) (s : State) : Monitor :=
  if monitored l sw s then
    if s.feedbackOn l sw = s.commanded l sw then .quiet
    else .filtering (s.now + (s.legParams l).disagreeFilter.setWidth 32)
  else .idle

/-- Idle monitors started with no disagreeing input of DISAGREE-FILTER 0: only monitors change. -/
theorem startMonitors_of_idle {s : State} (hidle : s.fbm.monitors = monitorsIdle)
    (hfilter : ∀ l sw, s.feedbackOn l sw = s.commanded l sw ∨ (s.legParams l).disagreeFilter ≠ 0) :
    MonitorsOnly s (startMonitors s) ∧ ∀ l sw, (startMonitors s).monitor l sw = startedMonitor l sw s := by
  have enter := forSwitches_sets (s := s) (f := fun l sw t => if monitored l sw t then t.setMonitor l sw .quiet else t)
    (g := fun l sw => if monitored l sw s then .quiet else .idle) fun l sw t only hm => by
      have hsame : monitored l sw t = monitored l sw s := by rw [only]; rfl
      rw [hsame]
      split
      · rfl
      · rw [← monitor_of_idle hidle l sw, ← hm, setMonitor_self]
  obtain ⟨entered, hentered⟩ := enter
  have observed := forSwitches_sets
    (s := forSwitches (fun l sw t => if monitored l sw t then t.setMonitor l sw .quiet else t) s)
    (f := fun l sw t => observe l sw false t) (g := fun l sw => startedMonitor l sw s) fun l sw t only hm => by
      rw [hentered] at hm
      have base : MonitorsOnly s t := by
        unfold MonitorsOnly at only entered ⊢
        rw [only, entered]
        rfl
      have hfeedback : t.feedbackOn l sw = s.feedbackOn l sw := by rw [base]; rfl
      have hcommanded : t.commanded l sw = s.commanded l sw := by rw [base]; rfl
      have hparams : t.legParams l = s.legParams l := by rw [base]; rfl
      have hnow : t.now = s.now := by rw [base]; rfl
      unfold startedMonitor
      split
      · next hmon =>
        rw [if_pos hmon] at hm
        unfold observe
        rw [hm]
        simp only [hfeedback, hcommanded, hparams, hnow]
        by_cases hagree : s.feedbackOn l sw = s.commanded l sw
        · rw [if_pos hagree, if_pos hagree, ← hm, setMonitor_self]
        · rw [if_neg hagree, if_neg hagree, if_neg ((hfilter l sw).resolve_left hagree)]
      · next hmon =>
        rw [if_neg hmon] at hm
        unfold observe
        rw [hm]
        simp only
        rw [← hm, setMonitor_self]
  obtain ⟨finished, hfinished⟩ := observed
  refine ⟨?_, hfinished⟩
  unfold startMonitors MonitorsOnly at *
  rw [finished, entered]
  rfl

end Sys2Proof.Machine
end

section
/-! PROOF. Halt orders: what they make of the node, its records and its monitors (R114, R119 to R121). -/

namespace Sys2Proof.Machine

/-! ### What a halt order records (R119) -/

/-- A discard event's work on the schedule depends on the ESU alone. -/
theorem esu_discardEntries_congr {s t : State} (h : t.esu = s.esu) (keep : SchedEntry → Bool) (r : DiscardReason) :
    (discardEntries keep r t).esu = (discardEntries keep r s).esu := by
  unfold discardEntries
  rw [h]
  split
  · exact h
  · rw [esu_report, esu_report]
    simp only [State.setSchedule, State.countEntries, State.esu_setEsu, h]

section
variable (x : HaltCause) (s : State)

/-- The HALT record and the discard event of a node that enters HALTED. -/
def haltDiscarded (x : HaltCause) (s : State) : State :=
  discardEntries (fun _ => false) .halt (report (.halt x (HaltSet.empty.add x) s.ncu.state s.now) s)

theorem haltRecorded_alike :
    ReportsAlike (report (.halt x (HaltSet.empty.add x) s.ncu.state s.now) s) (haltLegs (haltRecorded x s)) := by
  have node : ReportsAlike s (s.setNode .halted (HaltSet.empty.add x)) := ⟨rfl, rfl⟩
  exact (node.report _).trans (.ofLegs (haltLegs_same _))

theorem esu_haltLegs_haltRecorded : (haltLegs (haltRecorded x s)).esu = s.esu := by
  rw [(haltLegs_same _).esu, haltRecorded, esu_report]
  rfl

/-- The records of a node that enters HALTED are those of the halt, the discard and the cancel, in this order. -/
theorem haltEnter_alike : ReportsAlike (cancelCommit .halt (haltDiscarded x s)) (haltEnter x s) := by
  have discarded : ReportsAlike (haltDiscarded x s) (discardEntries (fun _ => false) .halt (haltLegs (haltRecorded x s))) :=
    (haltRecorded_alike x s).discardEntries (by rw [esu_haltLegs_haltRecorded, esu_report]) _ _
  have low : ReportsAlike (haltDiscarded x s)
      (strobesLow (discardEntries (fun _ => false) .halt (haltLegs (haltRecorded x s)))) := discarded.trans ⟨rfl, rfl⟩
  have cancelled := low.cancelCommit (r := .halt)
    (by simp [strobesLow, haltDiscarded, (haltLegs_same _).bks, haltRecorded, State.setNode])
    (by simp [strobesLow, haltDiscarded, (haltLegs_same _).ctu, haltRecorded, State.setNode])
  exact cancelled.trans ⟨rfl, rfl⟩

theorem entryCounters_haltEnter : (haltEnter x s).esu.counters = (haltDiscarded x s).esu.counters := by
  have h : (discardEntries (fun _ => false) .halt (haltLegs (haltRecorded x s))).esu = (haltDiscarded x s).esu :=
    esu_discardEntries_congr (by rw [esu_haltLegs_haltRecorded, esu_report]) _ _
  rw [← h]
  simp [haltEnter_eq, leaveOperation, strobesLow]

theorem haltEnter_alike_of_none (h : s.bks.pending = none) : ReportsAlike (haltDiscarded x s) (haltEnter x s) := by
  have hnone : cancelCommit .halt (haltDiscarded x s) = haltDiscarded x s := by
    unfold cancelCommit
    rw [haltDiscarded, bks_discardEntries, bks_report, h]
  exact hnone ▸ haltEnter_alike x s

theorem haltEnter_alike_of_some {g : Half} (h : s.bks.pending = some g) :
    ReportsAlike (report (.cancelled .halt g s.ctu.cycle) (haltDiscarded x s)) (haltEnter x s) := by
  have hpending : (haltDiscarded x s).bks.pending = some g := by rw [haltDiscarded, bks_discardEntries, bks_report, h]
  have hcycle : (haltDiscarded x s).ctu.cycle = s.ctu.cycle := by rw [haltDiscarded, ctu_discardEntries, ctu_report]
  have hsome : ReportsAlike (report (.cancelled .halt g s.ctu.cycle) (haltDiscarded x s))
      (cancelCommit .halt (haltDiscarded x s)) := by
    unfold cancelCommit
    rw [hpending, ← hcycle]
    dsimp only
    refine ReportsAlike.report ?_ _
    exact ⟨rfl, rfl⟩
  exact hsome.trans (haltEnter_alike x s)

end

/-! ### Halt orders by the node state -/

section
variable {x : HaltCause} {s : State}

theorem haltOrder_of_operating (h : Operating s) : haltOrder x s = haltEnter x s := by
  rcases h with h | h <;> simp only [haltOrder, h]

theorem haltOrder_of_standby (h : s.ncu.state = .standby) : haltOrder x s = startMonitors (haltEnter x s) := by
  simp only [haltOrder, h]

theorem haltOrder_of_halted (h : s.ncu.state = .halted) : haltOrder x s = haltFurther x s := by
  simp only [haltOrder, h]

theorem haltOrder_of_unaddressed (h : s.ncu.state = .unaddressed) : haltOrder x s = s := by
  simp only [haltOrder, h]

/-- A node whose monitors are IDLE and whose filters are none of them 0, as in a STANDBY that follows the invariants. -/
def CalmStandby (s : State) : Prop :=
  s.ncu.state = .standby ∧ s.fbm.monitors = monitorsIdle ∧ ∀ l, (s.legParams l).disagreeFilter ≠ 0

theorem legParams_haltEnter (l : LegId) : (haltEnter x s).legParams l = s.legParams l := by
  rw [State.legParams, State.legParams, activeBank_haltEnter]

theorem now_haltEnter : (haltEnter x s).now = s.now := (haltEnter_outside x s).now

theorem monitorsIdle_haltEnter (h : s.fbm.monitors = monitorsIdle) : (haltEnter x s).fbm.monitors = monitorsIdle := by
  rw [monitors_haltEnter]
  refine legWrites_idle.legsKept.haltLegs ?_
  rw [haltRecorded, monitors_report]
  exact h

/-- From a calm STANDBY the monitors start, and nothing else follows (R119 step 6). -/
theorem haltOrder_of_calm (h : CalmStandby s) :
    MonitorsOnly (haltEnter x s) (haltOrder x s) ∧
      ∀ l sw, (haltOrder x s).monitor l sw = startedMonitor l sw (haltEnter x s) := by
  obtain ⟨hn, hidle, hfilter⟩ := h
  rw [haltOrder_of_standby hn]
  exact startMonitors_of_idle (monitorsIdle_haltEnter hidle) fun l _ => .inr (by rw [legParams_haltEnter]; exact hfilter l)

theorem haltOrder_of_entering (h : Operating s ∨ CalmStandby s) : MonitorsOnly (haltEnter x s) (haltOrder x s) := by
  rcases h with h | h
  · rw [haltOrder_of_operating h]
    exact .refl _
  · exact (haltOrder_of_calm h).1

/-- The events of the monitors keep a HALTED node's state, and leave the PRU alone. -/
theorem monitorKept_haltedPru (p : Pru) : MonitorKept fun s => s.ncu.state = .halted ∧ s.pru = p where
  judge l s h := by rwa [(judgeLeg_same l s).ncu, (judgeLeg_same l s).pru]
  cause l x b s h := by rwa [(addCause_same l x b s).ncu, (addCause_same l x b s).pru]
  monitor _ _ _ _ _ h := h
  feedback _ _ h := h
  record b s _ h := by rwa [ncu_report, pru_report]
  capture l sw d c s h := by rwa [(captureEdge_same l sw d c s).ncu, (captureEdge_same l sw d c s).pru]
  enterHalt x s _ _ h := by simpa using h.2
  furtherHalt x s _ h := by simpa using h.2

theorem haltOrder_halted (h : s.ncu.state ≠ .unaddressed) :
    (haltOrder x s).ncu.state = .halted ∧ (haltOrder x s).pru = s.pru := by
  cases hn : s.ncu.state with
  | unaddressed => exact absurd hn h
  | standby =>
    rw [haltOrder_of_standby hn]
    exact (monitorKept_haltedPru s.pru).startMonitors ⟨by simp, by simp⟩
  | syncing => rw [haltOrder_of_operating (.inl hn)]; simp
  | running => rw [haltOrder_of_operating (.inr hn)]; simp
  | halted => rw [haltOrder_of_halted hn]; simp

/-- What an order that moves the node to HALTED makes of the legs (R46). -/
theorem leg_haltEnter (l : LegId) :
    (s.legEnabled l = false → (haltEnter x s).leg l = s.leg l) ∧
      (s.legEnabled l = true →
        ((haltEnter x s).leg l).cond.isSafe = true ∧
          ((haltEnter x s).leg l).cond.causes = (s.leg l).cond.causes.add .nodeHalt ∧
          ∀ cs p k, (s.leg l).cond = .safe cs p k → ((haltEnter x s).leg l).cond = .safe (cs.add .nodeHalt) p k) := by
  have hleg : (haltRecorded x s).leg l = s.leg l := by
    rw [State.leg, haltRecorded, lge_report]
    rfl
  have hen : (haltRecorded x s).legEnabled l = s.legEnabled l := by
    rw [State.legEnabled, State.legParams, State.activeBank, haltRecorded, bks_report]
    rfl
  have halted := leg_haltLegs l (haltRecorded x s)
  have hentered : (haltEnter x s).leg l = (haltLegs (haltRecorded x s)).leg l := by
    rw [State.leg, lge_haltEnter]
    rfl
  rw [hleg, hen] at halted
  rw [hentered]
  exact ⟨fun h => halted.1 (.inl h), halted.2⟩

theorem rpu_haltFurther :
    (haltFurther x s).rpu = (report (.halt x (s.ncu.causes.add x) .halted s.now) s).rpu := by
  have node : ReportsAlike s (s.setNode .halted (s.ncu.causes.add x)) := ⟨rfl, rfl⟩
  rw [haltFurther, (haltLegs_same _).rpu]
  exact (node.report _).rpu

end

/-- Settles O25, by the node state the order finds. -/
theorem haltOrdersHaltTheNode : Obligations.HaltOrdersHaltTheNode := by
  intro x s
  refine ⟨haltOrder_of_unaddressed, fun hn => ⟨(haltOrder_halted hn).1, haltOrder_outside x s, (haltOrder_halted hn).2,
    active_haltOrder x s⟩, fun hentering => ?_, fun hn hidle hfilter l sw => ?_, fun hn => ?_⟩
  · have only := haltOrder_of_entering (x := x) hentering
    unfold MonitorsOnly at only
    rw [only]
    simp only [State.ncu_setFbm, State.ctu_setFbm, State.esu_setFbm, State.bks_setFbm, State.rpu_setFbm]
    refine ⟨by simp, by simp, by simp, fun k => ?_, by simp, fun d hd => ?_, fun l => ?_⟩
    · rw [pulses_haltEnter]; cases k <;> rfl
    · rw [hd]
      refine ⟨entryCounters_haltEnter x s, fun hnone => ?_, fun g hsome => ?_⟩
      · exact ⟨(haltEnter_alike_of_none x s hnone).rpu, (haltEnter_alike_of_none x s hnone).edges⟩
      · exact ⟨(haltEnter_alike_of_some x s hsome).rpu, (haltEnter_alike_of_some x s hsome).edges⟩
    · exact leg_haltEnter l
  · obtain ⟨only, started⟩ := haltOrder_of_calm (x := x) ⟨hn, hidle, hfilter⟩
    have hcommanded : (haltOrder x s).commanded l sw = (haltEnter x s).commanded l sw := by
      unfold MonitorsOnly at only
      rw [only]
      rfl
    have hmon := monitored_iff l sw (haltEnter x s)
    rw [legParams_haltEnter, ncu_haltEnter] at hmon
    have hfeedback : (haltEnter x s).feedbackOn l sw = s.feedbackOn l sw := by
      rw [State.feedbackOn, State.feedbackOn, legParams_haltEnter, pins_haltEnter]
    rw [started, startedMonitor, hcommanded, legParams_haltEnter, now_haltEnter, hfeedback]
    refine ⟨fun hno => if_neg fun h => hno (hmon.1 h).2, fun hyes => if_pos (hmon.2 ⟨rfl, hyes⟩)⟩
  · rw [haltOrder_of_halted hn]
    have legs (l : LegId) := leg_haltLegs l
      (report (.halt x (s.ncu.causes.add x) .halted s.now) (s.setNode .halted (s.ncu.causes.add x)))
    refine ⟨by simp, rpu_haltFurther, by simp, by simp, by simp, fun l => ?_⟩
    have hleg : (report (.halt x (s.ncu.causes.add x) .halted s.now) (s.setNode .halted (s.ncu.causes.add x))).leg l =
        s.leg l := by
      rw [State.leg, lge_report]
      rfl
    have hen : (report (.halt x (s.ncu.causes.add x) .halted s.now)
        (s.setNode .halted (s.ncu.causes.add x))).legEnabled l = s.legEnabled l := by
      rw [State.legEnabled, State.legParams, State.activeBank, bks_report]
      rfl
    have halted := legs l
    rw [hleg, hen] at halted
    exact ⟨fun henabled _ => (halted.2 henabled).2.1, halted.1⟩

end Sys2Proof.Machine
end

section
/-! PROOF. The monitors' events: failures and disagreements, and observations of the feedback inputs (R73, R75 to R84). -/

namespace Sys2Proof.Machine

/-! ### Failures (R77, R79 to R81) -/

theorem SameButLegs.nodeParams {s t : State} (h : SameButLegs s t) : t.nodeParams = s.nodeParams := by
  rw [State.nodeParams, State.nodeParams, h.activeBank]

section
variable {l : LegId} {sw : Switch} {s : State}

/-- A failed switch: the record, cause CONFIRM, and with CONFIRM-ESCALATION NODE the halt (R80, R81). -/
theorem failSwitch_cases (src : FailSource) (e u : Bool) {v : State}
    (hv : v = addCause l .confirm u (report (.confirmFail l sw src e u s.now) s)) :
    (s.nodeParams.confirmEscalation = .leg → failSwitch l sw src e u s = v) ∧
      (s.nodeParams.confirmEscalation = .node → failSwitch l sw src e u s = haltByMonitor .confirm v) := by
  have hparams : v.nodeParams = s.nodeParams := by
    rw [hv, (addCause_same l _ u _).nodeParams, State.nodeParams, State.nodeParams, activeBank_report]
  have hfail : failSwitch l sw src e u s =
      match v.nodeParams.confirmEscalation with
      | .leg => v
      | .node => haltByMonitor .confirm v := by
    rw [hv]
    rfl
  rw [hfail, hparams]
  refine ⟨fun h => ?_, fun h => ?_⟩ <;> rw [h]

theorem haltByMonitor_eq_haltOrder {x : HaltCause} (h : Operating s ∨ s.ncu.state = .halted) :
    haltByMonitor x s = haltOrder x s := by
  rcases h with (h | h) | h <;> simp only [haltByMonitor, haltOrder, h]

end

/-- Settles O42: each event at its time is the failure of its switch. -/
theorem failuresAreReportedAndHandled : Obligations.FailuresAreReportedAndHandled := by
  refine ⟨fun l sw d s v hreach => ⟨fun expected c hm hv => ?_, fun hm => ?_, haltByMonitor_eq_haltOrder⟩,
    fun l sw s v hv => ?_⟩
  · have hexec : exec (.watchDeadline l sw) s = .next (failWatch l sw expected s) := by
      show Host.Outcome.next _ = _
      simp only [hm, hreach, if_true]
    have fails := failSwitch_cases (l := l) (sw := sw) (s := (s.setMonitor l sw (afterWatch l .failed s)).countFeedback
      fun k => { k with confirmFailures := satInc k.confirmFailures }) .watch expected (!expected) hv
    rw [hexec]
    exact ⟨fun h => congrArg _ (fails.1 h), fun h => congrArg _ (fails.2 h)⟩
  · show Host.Outcome.next _ = _
    simp only [hm, hreach, if_true]
  · exact failSwitch_cases (s := (s.setMonitor l sw .failed).countFeedback
      fun k => { k with disagreements := satInc k.disagreements }) .disagree (s.commanded l sw) (!s.commanded l sw) hv

/-! ### A watch that closes with success (R26, R76, R82 to R84) -/

section
variable {l : LegId} {sw : Switch} {s : State}

/-- The EDGE record that may follow in a state that differs from the one observed by legs only. -/
theorem captureEdge_follows {j : State} {direction edge : Bool} {c : Time} {due : Prop} (same : SameButLegs s j)
    (hdue : due ↔ (edge = true ∧ s.now ≠ c ∧ (s.legParams l).capture = .edges ∧ s.nodeParams.captureReports = true)) :
    EdgeFollows l sw direction c due j
      (if edge && decide (s.now ≠ c) then captureEdge l sw direction c j else j) := by
  have hcap : captureEdge l sw direction c j =
      if (s.legParams l).capture = .edges ∧ s.nodeParams.captureReports = true then
        if 2 ≤ j.fbm.edgeCounts.get l then refuseCapture j
        else report (.edge l sw direction j.now ((j.now - c).setWidth 16)) j
      else j := by
    rw [captureEdge, same.legParams, same.nodeParams]
  rw [hcap]
  refine ⟨fun hno => ?_, fun hyes hroom => ?_, fun hyes hfull => ?_⟩
  · split
    · next hedge =>
      rw [Bool.and_eq_true, decide_eq_true_iff] at hedge
      exact if_neg fun h => hno (hdue.2 ⟨hedge.1, hedge.2, h⟩)
    · rfl
  · obtain ⟨hedge, hlate, hcapture⟩ := hdue.1 hyes
    rw [if_pos (by simp [hedge, hlate]), if_pos hcapture, if_neg (by omega)]
  · obtain ⟨hedge, hlate, hcapture⟩ := hdue.1 hyes
    rw [if_pos (by simp [hedge, hlate]), if_pos hcapture, if_pos hfull]
    rfl

/-- The switch a leg waits for, as a closed watch looks it up. -/
def LegCond.waiting : LegCond → Option Switch
  | .gap p _ _ => some p
  | .safe _ _ clamp => clamp
  | _ => none

/-- The state after the LGE has been told of an off-confirmation (R26). -/
def confirmedState (l : LegId) (sw : Switch) (expected : Bool) (q : State) : State :=
  match expected, (q.leg l).cond.waiting with
  | false, some p => if awaitedSwitch (q.legParams l).mode p = sw then judgeLeg l q else q
  | _, _ => q

theorem watchSuccess_eq (expected edge : Bool) (c : Time) :
    watchSuccess l sw expected c edge s =
      if edge && decide (s.now ≠ c) then
        captureEdge l sw expected c (confirmedState l sw expected (s.setMonitor l sw (afterWatch l .quiet s)))
      else confirmedState l sw expected (s.setMonitor l sw (afterWatch l .quiet s)) := by
  unfold watchSuccess confirmedState
  rfl

theorem judgeLeg_of_not_waiting (h : ∀ w, ¬WaitsConfirm l w s) : judgeLeg l s = s := by
  unfold judgeLeg
  dsimp only
  split
  · next w e hc => exact absurd (.inl ⟨e, hc⟩) (h w)
  · next cs e w hc => exact absurd (.inr ⟨cs, e, hc⟩) (h w)
  · rfl

theorem waiting_of_waitsConfirm {w : Switch} (h : WaitsConfirm l w s) : (s.leg l).cond.waiting = some w := by
  rcases h with ⟨e, hc⟩ | ⟨cs, e, hc⟩ <;> rw [hc] <;> rfl

/-- No turn-on follows where "on" was expected, or no wait is for this switch. -/
theorem confirmedState_of_no_wait {expected : Bool}
    (h : expected = true ∨ ∀ w, WaitsConfirm l w s → sw ≠ awaitedSwitch (s.legParams l).mode w) :
    confirmedState l sw expected s = s := by
  unfold confirmedState
  cases expected with
  | true => rfl
  | false =>
    have hno := h.resolve_left (by simp)
    cases hw : (s.leg l).cond.waiting with
    | none => rfl
    | some p =>
      dsimp only
      split
      · next hawaited =>
        refine judgeLeg_of_not_waiting fun w hwaits => hno w hwaits ?_
        rw [waiting_of_waitsConfirm hwaits, Option.some.injEq] at hw
        rw [hw, hawaited]
      · rfl

theorem confirmedState_of_wait {w : Switch} (h : WaitsConfirm l w s) (hsw : awaitedSwitch (s.legParams l).mode w = sw) :
    confirmedState l sw false s = judgeLeg l s := by
  simp only [confirmedState, waiting_of_waitsConfirm h, hsw, if_true]

/-- A monitor that has just been closed is no open watch, so the confirm condition is met. -/
theorem confirmMet_of_closed {w : Switch} {m : Monitor} (hsw : awaitedSwitch (s.legParams l).mode w = sw)
    (hm : m.awaitsOff = false) : confirmMet l w (s.setMonitor l sw m) = true := by
  rw [confirmMet, legParams_setMonitor, hsw, monitor_setMonitor_same, hm, Bool.not_false, Bool.or_true]

end

/-- Settles O43, by the monitor's state. -/
theorem feedbackChangesAreJudged : Obligations.FeedbackChangesAreJudged := by
  refine ⟨fun l sw v s => ⟨fun h => congrArg Host.Outcome.next (if_neg h), fun h => congrArg Host.Outcome.next (if_pos h)⟩,
    fun l sw edge s => ⟨fun hm => ?_, fun hm => ⟨fun hsame => ?_, fun hdiff hfilter => ?_, fun hdiff hfilter => ?_⟩,
      fun hm => ?_, fun expected c d hm => ⟨fun hdiff => ?_, fun hsame q due hq hdue => ?_⟩⟩⟩
  · simp only [observe, hm]
  · simp only [observe, hm, if_pos hsame]
  · simp only [observe, hm, if_neg hdiff, if_neg hfilter]
  · simp only [observe, hm, if_neg hdiff, if_pos hfilter]
  · rcases hm with ⟨d, hm⟩ | hm
    · exact ⟨fun hsame => by simp only [observe, hm, if_pos hsame], fun hdiff => by simp only [observe, hm, if_neg hdiff]⟩
    · exact ⟨fun hsame => by simp only [observe, hm, if_pos hsame], fun hdiff => by simp only [observe, hm, if_neg hdiff]⟩
  · simp only [observe, hm, if_neg hdiff]
  · have hobserve : observe l sw edge s =
        if edge && decide (s.now ≠ c) then captureEdge l sw expected c (confirmedState l sw expected q)
        else confirmedState l sw expected q := by
      simp only [observe, hm, if_pos hsame]
      rw [watchSuccess_eq, hq]
      rfl
    have toq : SameButLegs s q := hq ▸ .setMonitor l sw _ s
    have hleg : q.leg l = s.leg l := by rw [hq]; rfl
    have waits (w : Switch) : WaitsConfirm l w q ↔ WaitsConfirm l w s := by rw [WaitsConfirm, WaitsConfirm, hleg]
    rw [hobserve]
    refine ⟨fun hno => ?_, fun hexp w hw hsw => ?_⟩
    · have hstay : confirmedState l sw expected q = q := confirmedState_of_no_wait (hno.imp id fun h w hw => by
        rw [awaitedSwitch_eq, toq.legParams]
        exact h w ((waits w).1 hw))
      rw [hstay]
      exact captureEdge_follows toq hdue
    · have hawaited : awaitedSwitch (s.legParams l).mode w = sw := by rw [awaitedSwitch_eq, hsw]
      have hjudge : confirmedState l sw expected q = judgeLeg l q := by
        rw [hexp]
        exact confirmedState_of_wait ((waits w).2 hw) (by rw [toq.legParams]; exact hawaited)
      have hmet : confirmMet l w q = true := by
        rw [hq]
        exact confirmMet_of_closed hawaited (by split <;> rfl)
      obtain ⟨hframe, hfollow, hwatches, hcounters⟩ := LegReported.judgeLeg l q
      rw [hjudge]
      refine ⟨_, hframe, hfollow, hwatches, hcounters.trans (by rw [hq]; rfl), fun e hc => ?_, fun cs e hc => ?_,
        captureEdge_follows (toq.trans (judgeLeg_same l q)) hdue⟩
      · rw [leg_judgeLeg_of_gap (by rw [hleg, hc]), hmet, hleg, toq.legParams, toq.now]
        rfl
      · rw [leg_judgeLeg_of_settling (by rw [hleg, hc]), hmet, hleg]
        rfl

end Sys2Proof.Machine
end

section
/-! PROOF. The fault channels' orders to the legs: forces, glitches, trips and releases (R90 to R101). -/

namespace Sys2Proof.Machine

/-! ### Orders to a set of legs -/

section
variable {f : LegId → State → State} {s : State}

/-- A loop over a set of legs: on a leg of the set its pass, on another nothing. -/
theorem forLegsIn_leg (frame : ∀ l t, LegFrame l t (f l t)) (v : LegSet) (l : LegId) :
    ∃ t, SameButLegs s t ∧ t.leg l = s.leg l ∧ (∀ sw, t.monitor l sw = s.monitor l sw) ∧
      (v.get l = true → (forLegsIn v f s).leg l = (f l t).leg l) ∧
      (v.get l = false → (forLegsIn v f s).leg l = s.leg l) := by
  obtain ⟨t, same, hleg, hmon, hloop, -⟩ := forLegs_leg (s := s) (f := fun l t => if v.get l then f l t else t)
    (fun l t => by split; exacts [frame l t, .refl l t]) l
  refine ⟨t, same, hleg, hmon, fun h => ?_, fun h => ?_⟩
  · rw [forLegsIn, hloop, if_pos h]
  · rw [forLegsIn, hloop, if_neg (by simp [h]), hleg]

theorem legCounters_forLegsIn (h : ∀ l t, (f l t).lge.counters = t.lge.counters) (v : LegSet) (s : State) :
    (forLegsIn v f s).lge.counters = s.lge.counters :=
  legCounters_forLegs (fun l t => by split; exacts [h l t, rfl]) s

theorem forLegsIn_of_none {v : LegSet} (h : ∀ l, v.get l = false) : forLegsIn v f s = s := by
  refine forLegs_keeps (P := fun t => t = s) (fun l t ht => ?_) rfl
  rw [if_neg (by simp [h l]), ht]

end

/-! ### What of the state an operation on a leg goes by -/

/-- Two states that agree on leg `l`, its monitors and parameters, the node state, node time and the pins. -/
structure LegAlike (l : LegId) (s t : State) : Prop where
  leg : t.leg l = s.leg l
  monitor : ∀ sw, t.monitor l sw = s.monitor l sw
  now : t.now = s.now
  params : t.legParams l = s.legParams l
  state : t.ncu.state = s.ncu.state
  feedback : ∀ sw, t.feedbackOn l sw = s.feedbackOn l sw

namespace LegAlike

variable {l : LegId} {s t : State}

theorem ofLegs (same : SameButLegs s t) (leg : t.leg l = s.leg l) (mon : ∀ sw, t.monitor l sw = s.monitor l sw) :
    LegAlike l s t :=
  ⟨leg, mon, same.now, same.legParams l, by rw [same.ncu], same.feedbackOn l⟩

theorem trans {u : State} (h : LegAlike l s t) (g : LegAlike l t u) : LegAlike l s u :=
  ⟨g.leg.trans h.leg, fun sw => (g.monitor sw).trans (h.monitor sw), g.now.trans h.now, g.params.trans h.params,
    g.state.trans h.state, fun sw => (g.feedback sw).trans (h.feedback sw)⟩

theorem report (l : LegId) (b : RecBody) (s : State) : LegAlike l s (report b s) := by
  have hparams : (Machine.report b s).legParams l = s.legParams l := by
    rw [State.legParams, State.legParams, activeBank_report]
  refine ⟨by rw [State.leg, lge_report]; rfl, fun sw => by rw [State.monitor, monitors_report]; rfl,
    by rw [State.now, ctu_report]; rfl, hparams, by rw [ncu_report], fun sw => ?_⟩
  rw [State.feedbackOn, State.feedbackOn, hparams, pins_report]

theorem legEnabled (h : LegAlike l s t) : t.legEnabled l = s.legEnabled l := by
  rw [State.legEnabled, State.legEnabled, h.params]

theorem commanded (h : LegAlike l s t) (sw : Switch) : t.commanded l sw = s.commanded l sw := by
  rw [State.commanded, State.commanded, h.leg]

/-- The same record reported in two such states leaves two such states. -/
theorem putLeg (h : LegAlike l s t) (x : Leg) : LegAlike l (putLeg l x s) (putLeg l x t) := by
  have hs := LegReported.putLeg l x s
  have ht := LegReported.putLeg l x t
  refine ⟨by rw [leg_putLeg_same, leg_putLeg_same], fun sw => ?_, ?_, ?_, ?_, fun sw => ?_⟩
  · rw [hs.follow sw, ht.follow sw, commanded_putLeg, commanded_putLeg, h.commanded, h.monitor, h.params, h.feedback, h.now]
  · rw [hs.frame.blocks.now, ht.frame.blocks.now, h.now]
  · rw [hs.frame.blocks.legParams, ht.frame.blocks.legParams, h.params]
  · rw [hs.frame.blocks.ncu, ht.frame.blocks.ncu, h.state]
  · rw [hs.frame.blocks.feedbackOn, ht.frame.blocks.feedbackOn, h.feedback]

theorem confirmMet (h : LegAlike l s t) (sw : Switch) : confirmMet l sw t = confirmMet l sw s := by
  rw [Machine.confirmMet, Machine.confirmMet, h.params, h.monitor]

theorem judgeLeg (h : LegAlike l s t) : (judgeLeg l t).leg l = (judgeLeg l s).leg l := by
  unfold Machine.judgeLeg
  dsimp only
  rw [h.leg]
  split
  · rw [h.confirmMet]
    split
    · rw [leg_putLeg_same, leg_putLeg_same, h.params, h.now]
    · exact h.leg
  · rw [h.confirmMet]
    split
    · rw [leg_putLeg_same, leg_putLeg_same]
    · exact h.leg
  · exact h.leg

/-- A cause makes the same record of the leg in two such states. -/
theorem addCause (h : LegAlike l s t) (x : LegCause) : (addCause l x false t).leg l = (addCause l x false s).leg l := by
  by_cases hen : s.legEnabled l = true
  · have hent : t.legEnabled l = true := h.legEnabled.trans hen
    by_cases hsafe : (s.leg l).cond.isSafe = true
    · cases hc : (s.leg l).cond with
      | safe cs p k =>
        rw [addCause_of_safe hen hc, addCause_of_safe hent (by rw [h.leg, hc]), h.leg]
        simp
      | _ => simp [hc, LegCond.isSafe] at hsafe
    · have hout : (s.leg l).cond.isSafe = false := by simpa using hsafe
      rw [addCause_of_not_safe hen hout, addCause_of_not_safe hent (by rw [h.leg, hout]), clampOff, clampOff, h.params,
        h.now, h.leg, h.state]
      exact (h.putLeg _).judgeLeg
  · have hdis : s.legEnabled l = false := by simpa using hen
    rw [addCause_of_disabled hdis, addCause_of_disabled (h.legEnabled.trans hdis), h.leg]

/-- A withdraw goes by the leg's record alone. -/
theorem withdrawLeg (h : t.leg l = s.leg l) (n : ChanId) : (withdrawLeg n l t).leg l = (withdrawLeg n l s).leg l := by
  unfold Machine.withdrawLeg
  rw [h]
  split
  · split
    · rw [leg_setLeg_same, leg_setLeg_same]
    · exact h
  · exact h

end LegAlike

/-! ### Withdraws (R41) -/

theorem withdrawLegs_eq (n : ChanId) (v : LegSet) (s : State) :
    withdrawLegs n v s = s.setLge { s.lge with legs := (withdrawLegs n v s).lge.legs } := by
  refine forLegsIn_keeps (P := fun t => t = s.setLge { s.lge with legs := t.lge.legs }) (fun l t ht => ?_) rfl
  unfold withdrawLeg
  split
  · split
    · rw [State.setLeg]
      rw [ht]
      rfl
    · exact ht
  · exact ht

theorem leg_withdrawLegs (n : ChanId) (v : LegSet) (s : State) (l : LegId) :
    (withdrawLegs n v s).leg l = if v.get l then (withdrawLeg n l s).leg l else s.leg l := by
  obtain ⟨t, -, hleg, -, hin, hout⟩ := forLegsIn_leg (s := s) (LegFrame.withdrawLeg n) v l
  split
  · next h => rw [withdrawLegs, hin h, LegAlike.withdrawLeg hleg]
  · next h => rw [withdrawLegs, hout (by simpa using h)]

theorem withdrawLeg_of_safe {n : ChanId} {l : LegId} {s : State} (h : (s.leg l).cond.isSafe = true) :
    withdrawLeg n l s = s :=
  withdrawLeg_of_not_held fun g hc => by simp [hc, LegCond.isSafe] at h

/-! ### Assertions and glitches (R93 to R95, R100) -/

theorem get_legSetWhere (p : LegId → Bool) (l : LegId) : (legSetWhere p).get l = p l := PerLeg.get_tabulate p l

/-- The affected set, leg by leg (R90). -/
theorem get_affectedSet (n : ChanId) (s : State) (l : LegId) :
    (affectedSet n s).get l =
      match (s.protParams n).action with
      | .tripLegs => (s.protParams n).legs.get l
      | .haltNode => s.legEnabled l := by
  unfold affectedSet
  cases (s.protParams n).action with
  | tripLegs => rfl
  | haltNode => exact get_legSetWhere _ l

/-- The state in which an assertion's forces are ordered. -/
def qualifyingState (n : ChanId) (forced : LegSet) (s : State) : State :=
  (s.setChannel n (.qualifying (s.now + (s.protParams n).qualify.setWidth 32) (s.protParams n).fast forced)).countProt
    fun k => { k with assertions := satInc k.assertions }

theorem takeAssertion_eq {n : ChanId} {s : State} {forced : LegSet}
    (h : ∀ l, forced.get l = ((s.protParams n).fast && (affectedSet n s).get l)) :
    takeAssertion n s =
      if (s.protParams n).qualify = 0 then tripChannel n forced (forLegsIn forced (forceLeg n) (qualifyingState n forced s))
      else forLegsIn forced (forceLeg n) (qualifyingState n forced s) := by
  have hset : forced = if (s.protParams n).fast then affectedSet n s else LegSet.empty := by
    refine PerLeg.ext_get fun l => ?_
    rw [h l]
    cases (s.protParams n).fast with
    | true => rfl
    | false => exact (PerLeg.get_tabulate (fun _ => false) l).symm
  rw [hset]
  rfl

/-- Settles O44, by the channel's state. -/
theorem faultAssertionsQualifyOrResume : Obligations.FaultAssertionsQualifyOrResume := by
  intro n s p forced huse hlow hp
  have hhigh : p.faultAsserted n = true := by
    rw [hp, faultAsserted_setFaultPin_same, entryReadsAsserted]
    simp [huse]
  have hexec : exec (.faultAssertion n) s = .next (channelAsserts n p) := by
    show Host.Outcome.next _ = _
    rw [if_neg (by simp [hlow]), ← hp, if_pos hhigh]
  have hchannel : p.channel n = s.channel n := by rw [hp]; rfl
  refine ⟨fun d hc => ?_, fun hc => ⟨?_, fun hforced => ?_⟩⟩
  · rw [hexec, channelAsserts, hchannel, hc]
  · rw [hexec, channelAsserts, hchannel, hc]
  · have htake := takeAssertion_eq (n := n) (s := p) (forced := forced) fun l => by
      rw [hforced l, get_affectedSet, hp]
      rfl
    have same := forceLegs_same n forced (qualifyingState n forced p)
    have hquiet (l : LegId) : (qualifyingState n forced p).leg l = s.leg l := by rw [hp]; rfl
    refine ⟨forLegsIn forced (forceLeg n) (qualifyingState n forced p), fun hq => ?_, fun hq => ?_, ?_, fun k hk => ?_, ?_, ?_, ?_,
      fun hslow => ?_, fun l => ?_⟩
    · rw [htake, hp]; exact if_neg hq
    · rw [htake, hp]; exact if_pos hq
    · rw [State.channel, same.pru, hp]
      exact channel_setChannel_same ..
    · rw [State.channel, same.pru, hp]
      exact (channel_setChannel ..).trans (if_neg hk)
    · rw [same.pru, hp]; rfl
    · rw [same.pru]
      exact same
    · rw [legCounters_forLegsIn (fun l t => (LegReported.forceLeg n l t).counters), hp]
      rfl
    · have hnone : forLegsIn forced (forceLeg n) (qualifyingState n forced p) = qualifyingState n forced p :=
        forLegsIn_of_none fun l => by rw [hforced l, hslow, Bool.false_and]
      rw [hnone, hp]
      exact ⟨rfl, rfl⟩
    · obtain ⟨t, hsame, hleg, -, hin, hout⟩ := forLegsIn_leg (s := qualifyingState n forced p) (fun l => LegFrame.forceLeg n l)
        forced l
      have ht : t.leg l = s.leg l := hleg.trans (hquiet l)
      have hen : t.legEnabled l = s.legEnabled l := by
        rw [hsame.legEnabled, hp]
        rfl
      refine ⟨fun h => ?_, fun hf henabled hsafe => ?_⟩
      · by_cases hf : forced.get l = true
        · have hstay : forceLeg n l t = t := forceLeg_of_untouched <| by
            rw [hen, ht]
            exact h.resolve_left (by simp [hf])
          rw [hin hf, hstay, ht]
        · rw [hout (by simpa using hf), hquiet]
      · obtain ⟨held, hheld, hget⟩ := leg_forceLeg (n := n) (l := l) (s := t) (hen.trans henabled) (by rw [ht, hsafe])
        refine ⟨held, ?_, by rw [hget, decide_eq_true rfl, Bool.true_or]⟩
        rw [hin hf, hheld, hsame.now, hp]
        rfl

/-- Settles O45, by the channel's state; then the glitch block by block. -/
theorem faultDeassertionsGlitchOrHold : Obligations.FaultDeassertionsGlitchOrHold := by
  refine ⟨fun n s p hhigh hp => ?_, fun n reason forced s t ht => ?_⟩
  · have hexec : exec (.faultDeassertion n) s = .next (channelDeasserts n p) := by
      show Host.Outcome.next _ = _
      rw [if_pos hhigh, ← hp]
    have hchannel : p.channel n = s.channel n := by rw [hp]; rfl
    have hprot : p.protParams n = s.protParams n := by rw [hp]; rfl
    have hnow : p.now = s.now := by rw [hp]; rfl
    refine ⟨fun d b forced hc => ?_, fun hc => ⟨fun hlatch => ?_, fun hlatch => ?_⟩⟩
    · rw [hexec, channelDeasserts, hchannel, hc]
    · rw [hexec, channelDeasserts, hchannel, hc, deassertActive, hprot, hlatch]
    · rw [hexec, channelDeasserts, hchannel, hc, deassertActive, hprot, hlatch, hnow]
  · have sets := glitch_sets n reason forced s
    have hwithdraw := withdrawLegs_eq n forced (report (.glitch n reason forced s.now) s)
    have hlegs (l : LegId) : t.leg l = (withdrawLegs n forced (report (.glitch n reason forced s.now) s)).leg l := by
      rw [ht]; rfl
    have hreport : SameButReports s (report (.glitch n reason forced s.now) s) := report_same _ s
    have hleg (l : LegId) : (report (.glitch n reason forced s.now) s).leg l = s.leg l := (LegAlike.report l _ s).leg
    have hcounters : t.lge.counters = s.lge.counters := by
      rw [ht, glitch, hwithdraw]
      exact (congrArg Lge.counters hreport.lge : _ = s.lge.counters)
    have hrest : t = (((report (.glitch n reason forced s.now) s).setLge t.lge).setChannel n .idle).countProt
        fun k => { k with glitches := satInc k.glitches } := by
      rw [ht, glitch, hwithdraw]
      rfl
    refine ⟨ht ▸ sets.self, fun k hk => by rw [ht, sets.channel, if_neg hk], ?_, by rw [hrest]; rfl, by rw [hrest]; rfl,
      by rw [hrest]; exact hreport.ctu, by rw [hrest]; exact hreport.esu, by rw [hrest]; exact hreport.bks,
      by rw [hrest]; exact hreport.mgu, by rw [hrest]; exact hreport.ncu, by rw [hrest]; exact hreport.ciu,
      by rw [hrest]; exact hreport.pins, by rw [hrest]; exact hreport.pending, by rw [hrest]; exact hreport.freeIndex,
      hcounters, fun l => ?_⟩
    · rw [hrest, ← hreport.pru]
      rfl
    · rw [hlegs, leg_withdrawLegs, LegAlike.withdrawLeg (hleg l), hleg]

/-! ### Trips (R96, R97) -/

/-- The legs a trip order reaches take the cause, the others stay (R96). -/
theorem leg_tripLegs (n : ChanId) (v : LegSet) {s t : State} (l : LegId) (alike : LegAlike l s t) :
    (tripLegs n v t).leg l = if v.get l then (addCause l (.fi n) false s).leg l else s.leg l := by
  obtain ⟨u, same, hleg, hmon, hin, hout⟩ := forLegsIn_leg (s := t) (fun l t => LegFrame.addCause l (.fi n) false t) v l
  split
  · next h => rw [tripLegs, hin h, (alike.trans (.ofLegs same hleg hmon)).addCause]
  · next h => rw [tripLegs, hout (by simpa using h), alike.leg]

theorem legCounters_tripLegs (n : ChanId) (v : LegSet) (s : State) : (tripLegs n v s).lge.counters = s.lge.counters :=
  legCounters_forLegsIn (fun l t => (LegReported.addCause l (.fi n) false t).counters) v s

section
variable {n : ChanId} {s : State}

theorem tripEffect_of_tripLegs (b : TripBasis) (h : (s.protParams n).action = .tripLegs) :
    tripEffect n b s =
      tripLegs n (s.protParams n).legs (report (.trip n .tripLegs b (s.protParams n).legs s.now) s) := by
  simp only [tripEffect, affectedSet, h]

theorem tripEffect_of_unaddressed (b : TripBasis) (h : (s.protParams n).action = .haltNode)
    (hn : s.ncu.state = .unaddressed) :
    tripEffect n b s = tripLegs n s.enabledLegs (report (.trip n .haltNode b s.enabledLegs s.now) s) := by
  simp only [tripEffect, affectedSet, h, hn]

theorem tripEffect_of_addressed (b : TripBasis) (h : (s.protParams n).action = .haltNode)
    (hn : s.ncu.state ≠ .unaddressed) :
    tripEffect n b s = haltOrder (.fault n) (report (.trip n .haltNode b s.enabledLegs s.now) s) := by
  cases hs : s.ncu.state with
  | unaddressed => exact absurd hs hn
  | _ => simp only [tripEffect, affectedSet, h, hs]

theorem pru_tripEffect (n : ChanId) (b : TripBasis) (s : State) : (tripEffect n b s).pru = s.pru := by
  cases h : (s.protParams n).action with
  | tripLegs => rw [tripEffect_of_tripLegs b h, (tripLegs_same n _ _).pru, pru_report]
  | haltNode =>
    by_cases hn : s.ncu.state = .unaddressed
    · rw [tripEffect_of_unaddressed b h hn, (tripLegs_same n _ _).pru, pru_report]
    · rw [tripEffect_of_addressed b h hn, (haltOrder_halted (by rw [ncu_report]; exact hn)).2, pru_report]

/-- A trip: its effect, the legs of FORCED that stay HELD-OFF withdrawn, the channel ACTIVE and counted. -/
theorem tripChannel_eq (n : ChanId) (forced : LegSet) (s : State) :
    tripChannel n forced s =
      ((tripEffect n .qualified s).setLge
          { (tripEffect n .qualified s).lge with legs := (tripChannel n forced s).lge.legs }).setPru
        (tripChannel n forced s).pru := by
  have h := withdrawLegs_eq n forced (tripEffect n .qualified s)
  unfold tripChannel
  rw [h]
  rfl

theorem leg_tripChannel (n : ChanId) (forced : LegSet) (s : State) (l : LegId) :
    (tripChannel n forced s).leg l =
      if forced.get l then (withdrawLeg n l (tripEffect n .qualified s)).leg l else (tripEffect n .qualified s).leg l :=
  leg_withdrawLegs n forced (tripEffect n .qualified s) l

theorem pruCounters_tripChannel (n : ChanId) (forced : LegSet) (s : State) :
    (tripChannel n forced s).pru.counters = { s.pru.counters with trips := satInc s.pru.counters.trips } := by
  have h : (withdrawLegs n forced (tripEffect n .qualified s)).pru = s.pru := by
    rw [(withdrawLegs_same n forced _).pru, pru_tripEffect]
  rw [← h]
  rfl

end

/-- The events of the monitors keep a HALTED node's state and each halt cause it holds. -/
theorem monitorKept_haltedHas (x : HaltCause) :
    MonitorKept fun s => s.ncu.state = .halted ∧ s.ncu.causes.has x = true where
  judge l s h := by rwa [(judgeLeg_same l s).ncu]
  cause l y b s h := by rwa [(addCause_same l y b s).ncu]
  monitor _ _ _ _ _ h := h
  feedback _ _ h := h
  record b s _ h := by rwa [ncu_report]
  capture l sw d c s h := by rwa [(captureEdge_same l sw d c s).ncu]
  enterHalt y s _ hn h := absurd h.1 hn
  furtherHalt y s _ h := by
    rw [ncu_haltFurther]
    refine ⟨rfl, ?_⟩
    have hx := h.2
    cases x <;> cases y <;> simp_all [HaltSet.has, HaltSet.add, PerChan.get_set]

theorem HaltSet.has_add (h : HaltSet) (x : HaltCause) : (h.add x).has x = true := by
  cases x <;> simp [HaltSet.add, HaltSet.has]

/-- A halt order leaves an addressed node HALTED, holding the cause (R119, R120). -/
theorem haltOrder_has {x : HaltCause} {s : State} (hn : s.ncu.state ≠ .unaddressed) :
    (haltOrder x s).ncu.state = .halted ∧ (haltOrder x s).ncu.causes.has x = true := by
  have entered : (haltEnter x s).ncu.state = .halted ∧ (haltEnter x s).ncu.causes.has x = true := by
    rw [ncu_haltEnter]
    exact ⟨rfl, HaltSet.has_add _ x⟩
  cases hs : s.ncu.state with
  | unaddressed => exact absurd hs hn
  | standby =>
    rw [haltOrder_of_standby hs]
    exact (monitorKept_haltedHas x).startMonitors entered
  | syncing => rw [haltOrder_of_operating (.inl hs)]; exact entered
  | running => rw [haltOrder_of_operating (.inr hs)]; exact entered
  | halted =>
    rw [haltOrder_of_halted hs, ncu_haltFurther]
    exact ⟨rfl, HaltSet.has_add _ x⟩

/-- What a trip with trip orders leaves of the blocks, in a state `t` that its channel's own block sets apart. -/
theorem tripChannel_of_orders {n : ChanId} {forced v : LegSet} {s : State} {b : RecBody}
    (h : tripEffect n .qualified s = tripLegs n v (report b s)) :
    (tripChannel n forced s).rpu = (report b s).rpu ∧ (tripChannel n forced s).ncu = s.ncu ∧
      (tripChannel n forced s).ctu = s.ctu ∧ (tripChannel n forced s).esu = s.esu ∧
      (tripChannel n forced s).bks = s.bks ∧ (tripChannel n forced s).lge.counters = s.lge.counters := by
  have same := tripLegs_same n v (report b s)
  rw [tripChannel_eq, h]
  refine ⟨same.rpu, same.ncu.trans (ncu_report b s), same.ctu.trans (ctu_report b s), same.esu.trans (esu_report b s),
    same.bks.trans (bks_report b s), ?_⟩
  exact (legCounters_tripLegs n v _).trans (congrArg Lge.counters (lge_report b s))

/-- Settles O46, by the entry's ACTION and the node state. -/
theorem qualifiedFaultsTrip : Obligations.QualifiedFaultsTrip := by
  intro n d b forced s hc hreach
  have sets := tripChannel_sets n forced s
  refine ⟨tripChannel n forced s, ?_, rfl, sets.self, fun k hk => by rw [sets.channel, if_neg hk],
    pruCounters_tripChannel n forced s, tripChannel_outside n forced s, fun hact => ?_, fun hact hn h hh => ?_,
    fun hact hn => ?_⟩
  · show Host.Outcome.next _ = _
    simp only [hc, hreach, if_true]
  · have heffect := tripEffect_of_tripLegs .qualified hact
    obtain ⟨hrpu, hncu, hctu, hesu, hbks, hcounters⟩ := tripChannel_of_orders (forced := forced) heffect
    refine ⟨hrpu, hncu, hctu, hesu, hbks, hcounters, fun l => ⟨fun hen hl => ?_, fun hno hf => ?_⟩⟩
    · obtain ⟨hsafe, hcauses⟩ := cond_addCause (x := .fi n) (b := false) hen
      have hleg : (tripEffect n .qualified s).leg l = (addCause l (.fi n) false s).leg l := by
        rw [heffect, leg_tripLegs n _ l (.report l _ s), if_pos hl]
      have hfinal : (tripChannel n forced s).leg l = (addCause l (.fi n) false s).leg l := by
        rw [leg_tripChannel, withdrawLeg_of_safe (by rw [hleg]; exact hsafe), ite_self, hleg]
      rw [hfinal]
      exact ⟨rfl, hsafe, hcauses⟩
    · rw [leg_tripChannel, if_neg (by simp [hf]), heffect, leg_tripLegs n _ l (.report l _ s)]
      split
      · next hl => rw [addCause_of_disabled (hno.resolve_right (by simp [hl]))]
      · rfl
  · have hn' : (report (.trip n .haltNode .qualified s.enabledLegs s.now) s).ncu.state ≠ .unaddressed := by
      rw [ncu_report]; exact hn
    have heffect : tripEffect n .qualified s = h := (tripEffect_of_addressed .qualified hact hn).trans hh.symm
    have hlegs (l : LegId) := leg_tripChannel n forced s l
    have hrest := tripChannel_eq n forced s
    rw [heffect] at hrest
    obtain ⟨hhalted, hhas⟩ := haltOrder_has (x := .fault n) hn'
    refine ⟨hrest, fun l => ⟨fun hf => by rw [hlegs, if_pos hf, heffect], fun hno => ?_⟩, ?_, ?_, fun hs => ?_⟩
    · rw [hlegs, heffect]
      split
      · next hf => rw [withdrawLeg_of_safe (hno.resolve_left (by simp [hf]))]
      · rfl
    · rw [hrest, hh]; exact hhalted
    · rw [hrest, hh]; exact hhas
    · have hrpu : (tripChannel n forced s).rpu = h.rpu := by rw [hrest]; rfl
      rw [hrpu, hh, haltOrder_of_halted (by rw [ncu_report]; exact hs), rpu_haltFurther, ncu_report, State.now, ctu_report]
      rfl
  · have heffect := tripEffect_of_unaddressed .qualified hact hn
    obtain ⟨hrpu, hncu, hctu, hesu, hbks, hcounters⟩ := tripChannel_of_orders (forced := forced) heffect
    have henabled (l : LegId) : s.enabledLegs.get l = s.legEnabled l := get_legSetWhere _ l
    refine ⟨hrpu, hncu, hctu, hesu, hbks, hcounters, fun l => ⟨fun hen => ?_, fun hdis => ?_⟩⟩
    · obtain ⟨hsafe, hcauses⟩ := cond_addCause (x := .fi n) (b := false) hen
      have hleg : (tripEffect n .qualified s).leg l = (addCause l (.fi n) false s).leg l := by
        rw [heffect, leg_tripLegs n _ l (.report l _ s), if_pos ((henabled l).trans hen)]
      have hfinal : (tripChannel n forced s).leg l = (addCause l (.fi n) false s).leg l := by
        rw [leg_tripChannel, withdrawLeg_of_safe (by rw [hleg]; exact hsafe), ite_self, hleg]
      rw [hfinal]
      refine ⟨rfl, hsafe, hcauses, fun hout => ?_⟩
      obtain ⟨-, -, -, -, henters⟩ := (causesTakeTheLegToSafe l (.fi n) false s).2 hen
      obtain ⟨p, hp, hopened, -⟩ := henters hout
      exact ⟨_, by rw [hp, hopened (.inr (.inr (.inl hn)))]⟩
    · have hleg : (tripEffect n .qualified s).leg l = s.leg l := by
        rw [heffect, leg_tripLegs n _ l (.report l _ s), if_neg (by rw [henabled, hdis]; simp)]
      rw [leg_tripChannel, LegAlike.withdrawLeg hleg, hleg]

/-! ### Releases (R45, R101) -/

section
variable {l : LegId} {s : State}

theorem LegReported.setCauses (l : LegId) (cs : Causes) (s : State) : LegReported l s (setCauses l cs s) := by
  unfold Machine.setCauses
  split
  · next hc =>
    split
    · exact .putLeg l _ s
    · exact .setLeg fun sw => by rw [hc, drives_safe_causes]
  · exact .refl l s

theorem LegReported.removeCause (l : LegId) (x : LegCause) (s : State) : LegReported l s (removeCause l x s) := by
  unfold Machine.removeCause
  split
  · exact .setCauses l _ s
  · exact .refl l s

/-- A cause that a leg in SAFE holds is removed; the leg that is left without one leaves SAFE (R45). -/
theorem leg_removeCause {x : LegCause} {cs : Causes} {p : SafePhase} {k : Option Switch}
    (hc : (s.leg l).cond = .safe cs p k) (hx : cs.has x = true) :
    ((cs.remove x).isEmpty = false →
      (removeCause l x s).leg l = { s.leg l with cond := .safe (cs.remove x) p k }) ∧
      ((cs.remove x).isEmpty = true →
        (removeCause l x s).leg l = Leg.offAt s.now (heldOrOff (standingForces l s))) := by
  have hset : removeCause l x s = setCauses l (cs.remove x) s := by
    simp only [removeCause, hc, LegCond.causes, hx, if_true]
  rw [hset, setCauses, hc]
  refine ⟨fun he => ?_, fun he => ?_⟩
  · rw [he]
    exact leg_setLeg_same ..
  · simp only [he, if_true, leg_putLeg_same]

theorem SameButLegs.standingForces {t : State} (h : SameButLegs s t) (l : LegId) :
    standingForces l t = standingForces l s := by
  rw [Machine.standingForces, Machine.standingForces]
  simp only [State.channel, h.pru]

end

/-- Settles O47: FIn leaves the legs that hold it, then the record and the channel. -/
theorem heldFaultsRelease : Obligations.HeldFaultsRelease := by
  intro n d s hc
  refine ⟨fun hreach => ?_, fun basis t ht => ?_⟩
  · show Host.Outcome.next _ = _
    simp only [hc, hreach, if_true]
  · have sets := releaseChannel_sets n basis s
    have same : SameButLegs s (forLegsIn (s.legsHolding (.fi n)) (fun l t => removeCause l (.fi n) t) s) :=
      .ofForLegsIn _ (fun l t => removeCause_same l (.fi n) t) s
    have recorded := report_same (.release n basis (s.legsHolding (.fi n)) s.now)
      (forLegsIn (s.legsHolding (.fi n)) (fun l t => removeCause l (.fi n) t) s)
    have hpru : (report (.release n basis (s.legsHolding (.fi n)) s.now)
        (forLegsIn (s.legsHolding (.fi n)) (fun l t => removeCause l (.fi n) t) s)).pru = s.pru :=
      recorded.pru.trans same.pru
    have hlge : t.lge = (forLegsIn (s.legsHolding (.fi n)) (fun l t => removeCause l (.fi n) t) s).lge := by
      rw [ht]
      exact recorded.lge
    refine ⟨ht ▸ sets.self, fun k hk => by rw [ht, sets.channel, if_neg hk], ?_, ht ▸ releaseChannel_outside n basis s, ?_,
      by rw [ht]; exact recorded.ncu.trans same.ncu, by rw [ht]; exact recorded.ctu.trans same.ctu,
      by rw [ht]; exact recorded.esu.trans same.esu, by rw [ht]; exact recorded.bks.trans same.bks, ?_, fun l => ?_⟩
    · rw [ht, ← hpru]; rfl
    · rw [ht]; exact ((ReportsAlike.ofLegs same).report _).rpu
    · rw [hlge]
      exact legCounters_forLegsIn (fun l t => (LegReported.removeCause l (.fi n) t).counters) _ s
    · have hhold : (s.legsHolding (.fi n)).get l = (s.leg l).cond.causes.has (.fi n) := get_legSetWhere _ l
      have htleg : t.leg l = (forLegsIn (s.legsHolding (.fi n)) (fun l t => removeCause l (.fi n) t) s).leg l := by
        rw [State.leg, hlge]; rfl
      obtain ⟨u, hsame, hleg, -, hin, hout⟩ := forLegsIn_leg (s := s) (fun l t => LegFrame.removeCause l (.fi n) t)
        (s.legsHolding (.fi n)) l
      refine ⟨hhold, fun hno => by rw [htleg, hout (hhold.trans hno)], fun cs p k hcond hfi => ?_⟩
      have hhas : (s.legsHolding (.fi n)).get l = true := by
        rw [hhold, hcond]
        exact hfi
      obtain ⟨hkeep, hleave⟩ := leg_removeCause (s := u) (l := l) (x := .fi n) (by rw [hleg, hcond]) hfi
      rw [htleg, hin hhas]
      refine ⟨fun he => by rw [hkeep he, hleg], fun he => ?_⟩
      rw [hleave he, hsame.now, hsame.standingForces]
      rfl

end Sys2Proof.Machine
end

section
/-! PROOF. Requests of the management unit: in which order they are judged, the counters' snapshots, and commits (R125,
R133 to R135, R170, R177 to R185). -/

namespace Sys2Proof.Machine

/-! ### How a MANAGE frame is taken (R125, R170, R177) -/

section
variable {i : Instr} {h : ManageHead} {r : Request} {s : State}

theorem formOk_of_wellFormed {f : DownFrame} (hi : i.downFrame = some f) (hw : i.wellFormed = true) :
    f.formOk = true := by
  simpa only [Instr.wellFormed, hi] using hw

/-- A MANAGE frame whose reception ends at U is taken as a request and passed on. -/
theorem exec_manage_of_endsAtU (hi : i.downFrame = some (.manage h r)) (hw : (DownFrame.manage h r).formOk = true)
    (hu : EndsAtU s) :
    exec i s = .next (passOn (.manage h r) (takeRequest h r (doRequest h r) (endReceptionU s))) := by
  rw [exec_of_downFrame hi, acceptFrame_of_endsAtU _ hu hw]
  rfl

/-- A fresh request that the node state admits is answered by its own rule (R177). -/
theorem exec_of_fresh (hi : i.downFrame = some (.manage h r)) (hw : (DownFrame.manage h r).formOk = true)
    (hfresh : FreshRequest h r s) (hadmit : admitted r s.ncu.state = true) :
    exec i s = .next (passOn (.manage h r) (doRequest h r (endReceptionU s))) := by
  have ht := manageFrame_of_fresh (doRequest h r) hfresh hw hadmit
  rw [manageFrame_of_endsAtU _ hfresh.1 hw] at ht
  rw [exec_manage_of_endsAtU hi hw hfresh.1, ht]

/-- A fresh request that the node state does not allow is refused (R125). -/
theorem exec_of_refused (hi : i.downFrame = some (.manage h r)) (hw : (DownFrame.manage h r).formOk = true)
    (hfresh : FreshRequest h r s) (hadmit : admitted r s.ncu.state = false) :
    exec i s = .next (passOn (.manage h r) (respond h r.code .wrongState [] (endReceptionU s))) := by
  obtain ⟨hu, ⟨a, ha, hdest⟩, hnew⟩ := hfresh
  have hmine : forThisNode h (endReceptionU s) = true := forThisNode_of_dest ha hdest
  have hstore : storedFor h r (endReceptionU s) = none := storedFor_of_no_match hnew
  rw [exec_manage_of_endsAtU hi hw hu, takeRequest, if_pos hmine, hstore]
  refine congrArg (fun u => Host.Outcome.next (passOn (.manage h r) u)) (if_neg ?_)
  rw [Bool.not_eq_true]
  exact hadmit

/-- The refusals by the node state (R125). -/
theorem admitted_eq_false (hr : (r = .arm ∧ s.ncu.state ≠ .standby) ∨ (r = .disarm ∧ ¬Operating s) ∨
    (r = .resume ∧ s.ncu.state ≠ .halted) ∨
    ((∃ x, r = .commitImmediate x) ∧ s.ncu.state ≠ .standby ∧ s.ncu.state ≠ .halted) ∨
    ((∃ g, r = .commitTargeted g) ∧ ¬Operating s)) : admitted r s.ncu.state = false := by
  rcases hr with ⟨rfl, hn⟩ | ⟨rfl, hn⟩ | ⟨rfl, hn⟩ | ⟨⟨x, rfl⟩, hn, hn'⟩ | ⟨⟨g, rfl⟩, hn⟩
  · exact decide_eq_false hn
  · exact decide_eq_false hn
  · exact decide_eq_false hn
  · exact decide_eq_false (not_or.2 ⟨hn, hn'⟩)
  · exact decide_eq_false hn

end

/-- Settles O48, in the order of R177. -/
theorem requestsAreJudgedInOrder : Obligations.RequestsAreJudgedInOrder := by
  refine ⟨fun i h r s v hi hw hu hv => ⟨fun hother => ?_, fun a x ha hdest hx hseq hcode => ?_, fun hfresh => ⟨?_, fun hr => ?_⟩⟩,
    fun p => ⟨rfl, rfl⟩, fun h code status data s => respond_eq h code status data s⟩
  · have hnot : forThisNode h (endReceptionU s) = false := by
      unfold forThisNode
      cases ha : (endReceptionU s).ciu.address with
      | none => rfl
      | some a => exact decide_eq_false (not_or.2 (hother a ha))
    rw [exec_manage_of_endsAtU hi (formOk_of_wellFormed hi hw) hu, takeRequest, if_neg (by simp [hnot]), hv]
    rfl
  · have hstored := manageFrame_of_stored (doRequest h r) hu (formOk_of_wellFormed hi hw) ha hdest hx hseq hcode
    rw [manageFrame_of_endsAtU _ hu (formOk_of_wellFormed hi hw)] at hstored
    rw [exec_manage_of_endsAtU hi (formOk_of_wellFormed hi hw) hu, hstored, hv]
    rfl
  · rintro ⟨c, p, rfl⟩
    rw [exec_of_fresh hi (formOk_of_wellFormed hi hw) hfresh rfl, hv]
    rfl
  · rw [exec_of_refused hi (formOk_of_wellFormed hi hw) hfresh (admitted_eq_false hr), hv]
    rfl

/-! ### Commits (R133 to R135) -/

section
variable {h : ManageHead} {x : Half} {s : State}

theorem horizonOk_iff (target cycle : Half) :
    horizonOk target cycle = true ↔ 1 ≤ (target - cycle).toNat ∧ (target - cycle).toNat ≤ 1024 := by
  rw [horizonOk, Bool.and_eq_true, decide_eq_true_iff, decide_eq_true_iff]
  rfl

theorem otherBank_bit (bank : BankName) : (otherBank bank).bit.setWidth 8 = if bank = .a then (1 : Byte) else 0 := by
  cases bank <;> rfl

/-- The rule of a targeted COMMIT, case by case. -/
theorem doCommitTargeted_cases (h : ManageHead) (x : Half) (s : State) :
    (s.bks.pending.isSome = true → doCommitTargeted h x s = respond h 7 .locked [] s) ∧
      (s.bks.pending = none → horizonOk x s.ctu.cycle = false → doCommitTargeted h x s = respond h 7 .badValue [] s) ∧
      (s.bks.pending = none → horizonOk x s.ctu.cycle = true →
        (∀ reason name, validate s.shadowBank = some (reason, name) →
          doCommitTargeted h x s = respond h 7 .invalid [datum reason name.codes.1 name.codes.2] s) ∧
          (validate s.shadowBank = none →
            doCommitTargeted h x s =
              respond h 7 .accepted [quadOfHalves x 0] (s.setBks { s.bks with pending := some x }))) := by
  refine ⟨fun hp => if_pos hp, fun hp hh => ?_, fun hp hh => ⟨fun reason name hv => ?_, fun hv => ?_⟩⟩
  · rw [doCommitTargeted, if_neg (by simp [hp]), if_neg (by simp [hh])]
  · rw [doCommitTargeted, if_neg (by simp [hp]), if_pos hh, hv]
    rfl
  · rw [doCommitTargeted, if_neg (by simp [hp]), if_pos hh, hv]

/-- The rule of an immediate COMMIT, case by case. -/
theorem doCommitImmediate_cases (h : ManageHead) (s : State) :
    (s.bks.pending.isSome = true → doCommitImmediate h s = respond h 7 .locked [] s) ∧
      (s.bks.pending = none →
        (∀ reason name, validate s.shadowBank = some (reason, name) →
          doCommitImmediate h s = respond h 7 .invalid [datum reason name.codes.1 name.codes.2] s) ∧
          (validate s.shadowBank = none →
            doCommitImmediate h s =
              respond h 7 .done [datum (if s.bks.active = .a then 1 else 0) 0 0] (swapBanks .immediate s))) := by
  refine ⟨fun hp => if_pos hp, fun hp => ⟨fun reason name hv => ?_, fun hv => ?_⟩⟩
  · rw [doCommitImmediate, if_neg (by simp [hp]), hv]
    rfl
  · rw [doCommitImmediate, if_neg (by simp [hp]), hv, ← otherBank_bit]

end

/-- Settles O56: both forms, by their own rules. -/
theorem commitsAreJudgedAndTaken : Obligations.CommitsAreJudgedAndTaken := by
  rintro h x s v rfl
  refine ⟨fun hfresh hn => ?_, fun hfresh hn => ?_⟩
  · rw [exec_of_fresh (i := .commitTargeted h x) rfl rfl hfresh (decide_eq_true hn)]
    obtain ⟨hlocked, hbad, hgood⟩ := doCommitTargeted_cases h x (endReceptionU s)
    refine ⟨fun hp => ?_, fun hp => ⟨fun hfar => ?_, fun hlow hhigh => ⟨fun reason name hv => ?_, fun hv => ?_⟩⟩⟩
    · exact congrArg (fun u => Host.Outcome.next (passOn _ u)) (hlocked hp)
    · have hno : horizonOk x s.ctu.cycle = false := by
        rw [Bool.eq_false_iff, Ne, horizonOk_iff]
        omega
      exact congrArg (fun u => Host.Outcome.next (passOn _ u)) (hbad hp hno)
    · exact congrArg (fun u => Host.Outcome.next (passOn _ u))
        ((hgood hp ((horizonOk_iff _ _).2 ⟨hlow, hhigh⟩)).1 reason name hv)
    · exact congrArg (fun u => Host.Outcome.next (passOn _ u)) ((hgood hp ((horizonOk_iff _ _).2 ⟨hlow, hhigh⟩)).2 hv)
  · rw [exec_of_fresh (i := .commitImmediate h x) rfl rfl hfresh (decide_eq_true hn)]
    obtain ⟨hlocked, hgood⟩ := doCommitImmediate_cases h (endReceptionU s)
    refine ⟨fun hp => ?_, fun hp => ⟨fun reason name hv => ?_, fun hv => ?_⟩⟩
    · exact congrArg (fun u => Host.Outcome.next (passOn _ u)) (hlocked hp)
    · exact congrArg (fun u => Host.Outcome.next (passOn _ u)) ((hgood hp).1 reason name hv)
    · exact congrArg (fun u => Host.Outcome.next (passOn _ u)) ((hgood hp).2 hv)

/-! ### Counters (R184, R185) -/

section
variable {h : ManageHead} {group page : Byte} {clearFlag : Bool} {s : State}

/-- The last page of a group (R185). -/
def Snapshot.lastPage : Snapshot → Nat
  | .link _ _ => 1
  | .timing _ => 1
  | .entries _ _ _ _ => 2
  | .accounting _ => 3

/-- A group holds the pages up to its last. -/
theorem page_eq_none_iff (x : Snapshot) (page : Byte) : x.page page = none ↔ x.lastPage < page.toNat := by
  have value (k : Byte) : page = k ↔ page.toNat = k.toNat := BitVec.toNat_inj.symm
  cases x <;> simp only [Snapshot.page, Snapshot.lastPage, value] <;> split_ifs <;> simp_all <;> omega

/-- COUNTERS for a group and page there is no counter of. -/
theorem doCounters_of_none (hp : ∀ fresh, snapshotOf group s = some fresh → fresh.page page = none) :
    doCounters h group page clearFlag s = respond h 3 .badValue [] s := by
  unfold doCounters
  cases hs : snapshotOf group s with
  | none => rfl
  | some fresh =>
    dsimp only
    rw [if_pos (by simp [hp fresh hs])]

/-- COUNTERS that takes a snapshot. -/
theorem doCounters_of_taking {fresh : Snapshot} {data : List Quad} (hs : snapshotOf group s = some fresh)
    (hd : fresh.page page = some data) (ht : page = 0 ∨ ∀ held, s.mgu.snapshot = some held → held.group ≠ group) :
    doCounters h group page clearFlag s =
      respond h 3 .done data
        (if clearFlag then clearGroup group (s.setMgu { s.mgu with snapshot := some fresh })
          else s.setMgu { s.mgu with snapshot := some fresh }) := by
  have htakes : takesSnapshot group page s = true := by
    rw [takesSnapshot, Bool.or_eq_true, decide_eq_true_iff, decide_eq_true_iff]
    refine ht.imp id fun h => ?_
    cases hsnap : s.mgu.snapshot with
    | none => simp
    | some held => simpa using h held hsnap
  rw [doCounters, hs]
  dsimp only
  rw [if_neg (by simp [hd]), if_pos htakes, respondPage, hd]

/-- COUNTERS answered from the snapshot held. -/
theorem doCounters_of_held {fresh held : Snapshot} {data kept : List Quad} (hs : snapshotOf group s = some fresh)
    (hd : fresh.page page = some data) (hp : page ≠ 0) (hheld : s.mgu.snapshot = some held) (hg : held.group = group)
    (hk : held.page page = some kept) :
    doCounters h group page clearFlag s = respond h 3 .done kept s := by
  have htakes : takesSnapshot group page s = false := by
    rw [takesSnapshot, hheld, Option.map_some, hg, decide_eq_false hp]
    simp
  rw [doCounters, hs]
  dsimp only
  rw [if_neg (by simp [hd]), if_neg (by simp [htakes]), hheld, Option.getD_some, respondPage, hk]

end

theorem snapshotOf_of_group {group : Byte} {s : State} {fresh : Snapshot}
    (h : (group = 0 ∧ fresh = .link s.ciu.counters s.rpu.overFull) ∨ (group = 1 ∧ fresh = .timing s.ctu.counters) ∨
      (group = 2 ∧ fresh = .entries s.esu.counters s.lge.counters s.fbm.counters s.pru.counters) ∨
      (group = 3 ∧ fresh = .accounting s.rpu.accounting)) : snapshotOf group s = some fresh := by
  rcases h with ⟨rfl, rfl⟩ | ⟨rfl, rfl⟩ | ⟨rfl, rfl⟩ | ⟨rfl, rfl⟩ <;> rfl

/-- The groups of R185 and their pages: past the last group or page there is nothing to answer. -/
theorem page_of_group_eq_none {group page : Byte} {s : State} {fresh : Snapshot}
    (hbad : 3 < group.toNat ∨ ((group = 0 ∨ group = 1) ∧ 1 < page.toNat) ∨ (group = 2 ∧ 2 < page.toNat) ∨
      (group = 3 ∧ 3 < page.toNat)) (hs : snapshotOf group s = some fresh) : fresh.page page = none := by
  rw [page_eq_none_iff]
  unfold snapshotOf at hs
  split_ifs at hs with h0 h1 h2 h3 <;> obtain rfl := Option.some.inj hs <;> subst group <;>
    simpa [Snapshot.lastPage] using hbad

/-- Settles O51: no page, a snapshot taken, or the one held. -/
theorem countersAreReadFromASnapshot : Obligations.CountersAreReadFromASnapshot := by
  refine ⟨fun h group page clearFlag s v hfresh hn hv => ?_, fun x page => ?_, fun _ _ _ _ _ _ _ _ =>
    ⟨rfl, rfl, rfl, rfl, rfl, rfl, rfl, rfl, rfl, rfl, rfl⟩⟩
  · have hexec : exec (.counters h group page clearFlag) s =
        .next (passOn (.manage h (.counters group page clearFlag)) (doCounters h group page clearFlag v)) := by
      rw [exec_of_fresh (i := .counters h group page clearFlag) rfl rfl hfresh (decide_eq_true hn), hv]
      rfl
    rw [hexec]
    refine ⟨fun hbad => ?_, fun fresh data w hgroup hd hw => ⟨fun htake => ?_, fun held kept hp hheld hg hk => ?_⟩⟩
    · rw [doCounters_of_none fun fresh hs => page_of_group_eq_none hbad hs]
    · have hs : snapshotOf group v = some fresh := snapshotOf_of_group (by rw [hv]; exact hgroup)
      rw [doCounters_of_taking hs hd (by rw [hv]; exact htake), hw, hv]
      refine congrArg (fun u => Host.Outcome.next (passOn _ (respond h 3 .done data u))) ?_
      cases clearFlag with
      | false => rfl
      | true =>
        simp only [if_true, clearGroup]
        split_ifs <;> rfl
    · have hs : snapshotOf group v = some fresh := snapshotOf_of_group (by rw [hv]; exact hgroup)
      rw [doCounters_of_held hs hd hp (by rw [hv]; exact hheld) hg hk]
  · have value (k : Byte) : page = k ↔ page.toNat = k.toNat := BitVec.toNat_inj.symm
    cases x with
    | accounting a =>
      simp only [Snapshot.page, value]
      split_ifs <;> simp_all
      omega
    | _ =>
      simp only [Snapshot.page]
      split_ifs <;> rfl

end Sys2Proof.Machine
end

section
/-! PROOF. STATUS: the fields of its four units (R152, R183, Tables 52 and 54). -/

namespace Sys2Proof.Machine

/-! ### The STATUS word -/

/-- The four units hold every bit of the value. -/
theorem quadsOf128_append (x : BitVec 128) :
    x.extractLsb' 96 32 ++ x.extractLsb' 64 32 ++ x.extractLsb' 32 32 ++ x.extractLsb' 0 32 = x := by
  rw [BitVec.extractLsb'_append_extractLsb'_eq_extractLsb' (by rfl),
    BitVec.extractLsb'_append_extractLsb'_eq_extractLsb' (by rfl),
    BitVec.extractLsb'_append_extractLsb'_eq_extractLsb' (by rfl)]
  exact BitVec.extractLsb'_eq_self

/-- The word of seven fields (Table 54). -/
def statusWord (flags address : Byte) (target : Half) (causes queue schedule : Byte) (legs : BitVec 72) : BitVec 128 :=
  flags ++ address ++ target ++ causes ++ queue ++ schedule ++ legs

/-- The legs' part of the word. -/
def legsWord (c : LegId → BitVec 12) : BitVec 72 := c .l0 ++ c .l1 ++ c .l2 ++ c .l3 ++ c .l4 ++ c .l5

section
variable (flags address : Byte) (target : Half) (causes queue schedule : Byte) (legs : BitVec 72)

/-- The fields of the word, each at its place. -/
theorem statusWord_fields :
    (statusWord flags address target causes queue schedule legs).extractLsb' 112 8 = address ∧
      (statusWord flags address target causes queue schedule legs).extractLsb' 96 16 = target ∧
      (statusWord flags address target causes queue schedule legs).extractLsb' 88 8 = causes ∧
      (statusWord flags address target causes queue schedule legs).extractLsb' 80 8 = queue ∧
      (statusWord flags address target causes queue schedule legs).extractLsb' 72 8 = schedule := by
  unfold statusWord
  simp (disch := decide) only [BitVec.extractLsb'_append_eq_of_le, BitVec.extractLsb'_append_eq_of_add_le,
    Nat.reduceSub, BitVec.extractLsb'_eq_self, and_self]

/-- A bit field of the word's first byte. -/
theorem statusWord_flags_field {k len : Nat} (hk : 120 ≤ k) :
    (statusWord flags address target causes queue schedule legs).extractLsb' k len = flags.extractLsb' (k - 120) len := by
  unfold statusWord
  simp (disch := omega) only [BitVec.extractLsb'_append_eq_of_le, Nat.sub_sub]

theorem statusWord_flag {k : Nat} (hk : 120 ≤ k) :
    (statusWord flags address target causes queue schedule legs).getLsbD k = flags.getLsbD (k - 120) := by
  have hbit (w : Nat) (x : BitVec w) (j : Nat) : x.getLsbD j = (x.extractLsb' j 1).getLsbD 0 := by simp
  rw [hbit, statusWord_flags_field _ _ _ _ _ _ _ hk, ← hbit]

/-- A field of the word that lies in the legs' part. -/
theorem statusWord_legs_field {k len : Nat} (hk : k + len ≤ 72) :
    (statusWord flags address target causes queue schedule legs).extractLsb' k len = legs.extractLsb' k len :=
  BitVec.extractLsb'_append_eq_of_add_le hk

end

theorem legsWord_field (c : LegId → BitVec 12) (l : LegId) : (legsWord c).extractLsb' (60 - 12 * legIndex l) 12 = c l := by
  unfold legsWord
  cases l <;> simp (disch := decide) only [legIndex, BitVec.extractLsb'_append_eq_of_le,
    BitVec.extractLsb'_append_eq_of_add_le, Nat.reduceSub, Nat.reduceMul, BitVec.extractLsb'_eq_self]

/-- The bits of the word's first byte. -/
theorem flagsByte_fields (p f : Bool) (bank : BitVec 1) (state : BitVec 2) :
    (0#3 ++ BitVec.ofBool p ++ BitVec.ofBool f ++ bank ++ state).extractLsb' 5 3 = 0 ∧
      (0#3 ++ BitVec.ofBool p ++ BitVec.ofBool f ++ bank ++ state).getLsbD 4 = p ∧
      (0#3 ++ BitVec.ofBool p ++ BitVec.ofBool f ++ bank ++ state).getLsbD 3 = f ∧
      (0#3 ++ BitVec.ofBool p ++ BitVec.ofBool f ++ bank ++ state).getLsbD 2 = bank.getLsbD 0 ∧
      (0#3 ++ BitVec.ofBool p ++ BitVec.ofBool f ++ bank ++ state).extractLsb' 0 2 = state := by
  simp (disch := decide) only [BitVec.extractLsb'_append_eq_of_le, BitVec.extractLsb'_append_eq_of_add_le,
    Nat.reduceSub, BitVec.extractLsb'_eq_self, BitVec.getLsbD_append]
  simp

/-- The STATUS data in its seven fields. -/
theorem statusData_eq (s : State) :
    statusData s = quadsOf128 (statusWord (statusFlags s) (s.ciu.address.getD 0) (s.bks.pending.getD 0)
      (0#1 ++ s.ncu.causes.bits) (BitVec.ofNat 8 s.rpu.queue.length) (BitVec.ofNat 8 s.esu.schedule.length)
      (legsWord fun l => legStatus (s.leg l).cond)) := rfl

/-- The bits of a set of leg causes (Table 52). -/
theorem causes_bits (c : Causes) : (∀ n, c.bits.getLsbD (chanIndex n) = c.fi.get n) ∧ c.bits.getLsbD 4 = c.confirm ∧
    c.bits.getLsbD 5 = c.overlong ∧ c.bits.getLsbD 6 = c.nodeHalt := by
  refine ⟨fun n => ?_, ?_, ?_, ?_⟩
  · cases n <;> simp only [Causes.bits, chanIndex, BitVec.getLsbD_append, PerChan.get, BitVec.getLsbD_ofBool] <;> rfl
  all_goals simp only [Causes.bits, BitVec.getLsbD_append]; simp

/-- Settles O50: the four units are one word, whose fields stand at the places of Table 54. -/
theorem statusReportsTheNode : Obligations.StatusReportsTheNode := by
  refine ⟨fun h a s v hfresh ha hn hv => ?_, causes_bits⟩
  have hexec : exec (.status h) s = .next (passOn (.manage h .status) (doStatus h v)) := by
    rw [exec_of_fresh (i := .status h) rfl rfl hfresh (decide_eq_true hn), hv]
    rfl
  obtain ⟨haddress, htarget, hcauses, hqueue, hschedule⟩ := statusWord_fields (statusFlags s) (s.ciu.address.getD 0)
    (s.bks.pending.getD 0) (0#1 ++ s.ncu.causes.bits) (BitVec.ofNat 8 s.rpu.queue.length)
    (BitVec.ofNat 8 s.esu.schedule.length) (legsWord fun l => legStatus (s.leg l).cond)
  obtain ⟨hzero, hpending, hoverflow, hactive, hstate⟩ := flagsByte_fields s.bks.pending.isSome s.rpu.faultOverflow
    s.bks.active.bit s.ncu.state.code
  refine ⟨_, _, _, _, statusWord _ _ _ _ _ _ _, (quadsOf128_append _).symm, ?_, ?_, ?_, ?_, ?_, ?_, ?_, ?_, ?_, ?_, ?_,
    ?_, hcauses, hqueue, hschedule, ?_⟩
  · rw [hexec, hv]
    rfl
  · rw [statusWord_flags_field _ _ _ _ _ _ _ (by decide)]
    exact hzero
  · rw [statusWord_flag _ _ _ _ _ _ _ (by decide)]
    exact hpending
  · rw [statusWord_flag _ _ _ _ _ _ _ (by decide)]
    exact hoverflow
  · rw [statusWord_flag _ _ _ _ _ _ _ (by decide)]
    refine hactive.trans ?_
    cases s.bks.active <;> rfl
  iterate 4
    · intro hs
      rw [statusWord_flags_field _ _ _ _ _ _ _ (by decide)]
      exact hstate.trans (by rw [hs]; rfl)
  · exact haddress.trans (by rw [ha]; rfl)
  · exact fun g hg => htarget.trans (by rw [hg]; rfl)
  · exact fun hg => htarget.trans (by rw [hg]; rfl)
  · intro l
    rw [statusWord_legs_field _ _ _ _ _ _ _ (by omega), legsWord_field, legStatus]
    rcases (s.leg l).cond with _ | ⟨_ | _, _⟩ | _ | _ | ⟨_, _ | _ | _, _⟩ <;> rfl

end Sys2Proof.Machine
end

section
/-! PROOF. Bytes, two-byte fields and units, and the records of a bank (R129, R130, R193, R195, Tables 31 to 34
and 53). -/

namespace Sys2Proof.Machine

/-! ### Fields and units from bytes and back (R193) -/

theorem halfOf_extract (x : Half) : halfOf (x.extractLsb' 8 8) (x.extractLsb' 0 8) = x :=
  (BitVec.extractLsb'_append_extractLsb'_eq_extractLsb' (by rfl)).trans BitVec.extractLsb'_eq_self

theorem halfBytes_halfOf (hi lo : Byte) : halfBytes (halfOf hi lo) = [hi, lo] := by
  rw [halfBytes, halfOf, BitVec.extractLsb'_append_eq_left, BitVec.extractLsb'_append_eq_right]

theorem halfOf_toNat (hi lo : Byte) : (halfOf hi lo).toNat = hi.toNat * 256 + lo.toNat := by
  rw [halfOf, BitVec.toNat_append, Nat.shiftLeft_eq, Nat.mul_comm, ← Nat.two_pow_add_eq_or_of_lt lo.isLt, Nat.mul_comm]

theorem halfBytes_eq_iff {x : Half} {hi lo : Byte} : halfBytes x = [hi, lo] ↔ x = halfOf hi lo := by
  refine ⟨fun h => ?_, by rintro rfl; exact halfBytes_halfOf hi lo⟩
  obtain ⟨rfl, htail⟩ := List.cons.inj h
  obtain ⟨rfl, -⟩ := List.cons.inj htail
  exact (halfOf_extract x).symm

theorem halfOf_inj {hi lo hi' lo' : Byte} : halfOf hi lo = halfOf hi' lo' ↔ hi = hi' ∧ lo = lo' := by
  refine ⟨fun h => ?_, by rintro ⟨rfl, rfl⟩; rfl⟩
  have hb := congrArg halfBytes h
  simpa only [halfBytes_halfOf, List.cons.injEq, and_true] using hb

theorem quadOf_quadBytes (q : Quad) : quadOf (quadByte q 0) (quadByte q 1) (quadByte q 2) (quadByte q 3) = q := by
  unfold quadOf quadByte
  rw [BitVec.extractLsb'_append_extractLsb'_eq_extractLsb' (by rfl),
    BitVec.extractLsb'_append_extractLsb'_eq_extractLsb' (by rfl),
    BitVec.extractLsb'_append_extractLsb'_eq_extractLsb' (by rfl)]
  exact BitVec.extractLsb'_eq_self

theorem quadBytes_quadOf (b0 b1 b2 b3 : Byte) : quadBytes (quadOf b0 b1 b2 b3) = [b0, b1, b2, b3] := by
  unfold quadBytes quadByte quadOf
  simp (disch := decide) only [BitVec.extractLsb'_append_eq_of_le, BitVec.extractLsb'_append_eq_of_add_le,
    Nat.reduceSub, Nat.reduceMul, BitVec.extractLsb'_eq_self]

theorem bytesOfQuads_cons (q : Quad) (qs : List Quad) : bytesOfQuads (q :: qs) = quadBytes q ++ bytesOfQuads qs := rfl

/-- Units read back from their bytes. -/
theorem quadsOfBytes_bytesOfQuads (qs : List Quad) : quadsOfBytes (bytesOfQuads qs) = some qs := by
  induction qs with
  | nil => rfl
  | cons q qs ih =>
    show (quadsOfBytes (bytesOfQuads qs)).map (quadOf _ _ _ _ :: ·) = _
    rw [ih, quadOf_quadBytes]
    rfl

/-- Bytes read back from the units they give. -/
theorem bytesOfQuads_of_quadsOfBytes : ∀ {bytes : List Byte} {qs : List Quad}, quadsOfBytes bytes = some qs →
    bytesOfQuads qs = bytes
  | [], qs, h => by obtain rfl := Option.some.inj h; rfl
  | b0 :: b1 :: b2 :: b3 :: rest, qs, h => by
    obtain ⟨more, hmore, rfl⟩ := Option.map_eq_some_iff.1 h
    rw [bytesOfQuads_cons, quadBytes_quadOf, bytesOfQuads_of_quadsOfBytes hmore]
    rfl

theorem length_bytesOfQuads (qs : List Quad) : (bytesOfQuads qs).length = 4 * qs.length := by
  induction qs with
  | nil => rfl
  | cons q qs ih => rw [bytesOfQuads_cons, List.length_append, ih, List.length_cons]; simp [quadBytes]; omega

/-! ### Ten-bit fields -/

theorem tenBytes_eq (x : BitVec 10) : tenBytes x = [0#6 ++ x.extractLsb' 8 2, x.extractLsb' 0 8] := by
  have hx := x.isLt
  rw [tenBytes, halfBytes_eq_iff, ← BitVec.toNat_inj, halfOf_toNat, BitVec.toNat_setWidth_of_le (by decide)]
  simp only [BitVec.toNat_append, BitVec.extractLsb'_toNat, BitVec.toNat_ofNat, Nat.shiftRight_eq_div_pow,
    Nat.zero_mod, Nat.zero_shiftLeft, Nat.zero_or]
  omega

theorem tenOf_eq_none_iff {hi lo : Byte} : tenOf hi lo = none ↔ 4 ≤ hi.toNat := by
  have := lo.isLt
  rw [tenOf, halfOf_toNat]
  split_ifs with h <;> simp <;> omega

/-- A ten-bit field and the bytes that carry it. -/
theorem tenOf_eq_some_iff {hi lo : Byte} {x : BitVec 10} : tenOf hi lo = some x ↔ tenBytes x = [hi, lo] := by
  have hx := x.isLt
  rw [tenBytes, halfBytes_eq_iff, tenOf, ← BitVec.toNat_inj, BitVec.toNat_setWidth_of_le (by decide)]
  split_ifs with h
  · rw [Option.some_inj, ← BitVec.toNat_inj, BitVec.toNat_setWidth]
    omega
  · simp only [false_iff]
    omega

/-- A field read and carried again. -/
theorem tenOf_extract (x : BitVec 10) : tenOf (0#6 ++ x.extractLsb' 8 2) (x.extractLsb' 0 8) = some x :=
  tenOf_eq_some_iff.2 (tenBytes_eq x)

/-! ### MAX-ON, MODE and SAFE-STATE -/

theorem quadBytes_eq_iff {q : Quad} {b0 b1 b2 b3 : Byte} :
    quadBytes q = [b0, b1, b2, b3] ↔ q = quadOf b0 b1 b2 b3 := by
  refine ⟨fun h => ?_, by rintro rfl; exact quadBytes_quadOf b0 b1 b2 b3⟩
  simp only [quadBytes, List.cons.injEq, and_true] at h
  obtain ⟨rfl, rfl, rfl, rfl⟩ := h
  exact (quadOf_quadBytes q).symm

theorem maxOnOf_eq_none_iff {q : Quad} :
    maxOnOf q = none ↔ (1 ≤ q.toNat ∧ q.toNat ≤ 999) ∨ 16000000 < q.toNat := by
  unfold maxOnOf
  split_ifs with h <;> simp <;> omega

theorem maxOnOf_eq_some_iff {q : Quad} {x : BitVec 24} :
    maxOnOf q = some x ↔ x.setWidth 32 = q ∧ (x = 0 ∨ (1000 ≤ x.toNat ∧ x.toNat ≤ 16000000)) := by
  have hx := x.isLt
  rw [maxOnOf, ← BitVec.toNat_inj, BitVec.toNat_setWidth_of_le (by decide), ← BitVec.toNat_inj]
  simp only [BitVec.ofNat_eq_ofNat, BitVec.toNat_ofNat, Nat.zero_mod]
  split_ifs with h
  · rw [Option.some_inj, ← BitVec.toNat_inj, BitVec.toNat_setWidth]
    omega
  · simp only [false_iff]
    omega

theorem modeOfCode_eq_none_iff {b : Byte} : LegMode.ofCode b = none ↔ 2 < b.toNat := by
  have value (k : Byte) : b = k ↔ b.toNat = k.toNat := BitVec.toNat_inj.symm
  unfold LegMode.ofCode
  simp only [value]
  split_ifs <;> simp_all
  omega

theorem modeOfCode_eq_some_iff {b : Byte} {x : LegMode} : LegMode.ofCode b = some x ↔ x.code = b := by
  constructor
  · unfold LegMode.ofCode
    split_ifs with h0 h1 h2 <;> rintro ⟨⟩ <;> exact Eq.symm ‹_›
  · rintro rfl
    cases x <;> rfl

theorem safeStateOfCode_eq_none_iff {b : BitVec 2} : SafeState.ofCode b = none ↔ b = 3#2 := by
  revert b
  decide

theorem safeStateOfCode_eq_some_iff {b : BitVec 2} {x : SafeState} : SafeState.ofCode b = some x ↔ x.code = b := by
  constructor
  · unfold SafeState.ofCode
    split_ifs with h0 h1 h2 <;> rintro ⟨⟩ <;> exact Eq.symm ‹_›
  · rintro rfl
    cases x <;> rfl

/-! ### Flag bytes -/

/-- The fields of a leg record's last byte. -/
theorem legFlags_fields (safe : BitVec 2) (f4 f3 f2 f1 f0 : Bool) :
    (0#1 ++ safe ++ BitVec.ofBool f4 ++ BitVec.ofBool f3 ++ BitVec.ofBool f2 ++ BitVec.ofBool f1 ++
        BitVec.ofBool f0).extractLsb' 5 2 = safe ∧
      (0#1 ++ safe ++ BitVec.ofBool f4 ++ BitVec.ofBool f3 ++ BitVec.ofBool f2 ++ BitVec.ofBool f1 ++
        BitVec.ofBool f0).getLsbD 4 = f4 ∧
      (0#1 ++ safe ++ BitVec.ofBool f4 ++ BitVec.ofBool f3 ++ BitVec.ofBool f2 ++ BitVec.ofBool f1 ++
        BitVec.ofBool f0).getLsbD 3 = f3 ∧
      (0#1 ++ safe ++ BitVec.ofBool f4 ++ BitVec.ofBool f3 ++ BitVec.ofBool f2 ++ BitVec.ofBool f1 ++
        BitVec.ofBool f0).getLsbD 2 = f2 ∧
      (0#1 ++ safe ++ BitVec.ofBool f4 ++ BitVec.ofBool f3 ++ BitVec.ofBool f2 ++ BitVec.ofBool f1 ++
        BitVec.ofBool f0).getLsbD 1 = f1 ∧
      (0#1 ++ safe ++ BitVec.ofBool f4 ++ BitVec.ofBool f3 ++ BitVec.ofBool f2 ++ BitVec.ofBool f1 ++
        BitVec.ofBool f0).getLsbD 0 = f0 := by
  simp (disch := decide) only [BitVec.extractLsb'_append_eq_of_le, BitVec.extractLsb'_append_eq_of_add_le,
    Nat.reduceSub, BitVec.extractLsb'_eq_self, BitVec.getLsbD_append]
  simp

/-- A byte's last seven bits in the fields of a leg record. -/
theorem legFlags_of_byte (b : Byte) :
    0#1 ++ b.extractLsb' 5 2 ++ BitVec.ofBool (b.getLsbD 4) ++ BitVec.ofBool (b.getLsbD 3) ++
      BitVec.ofBool (b.getLsbD 2) ++ BitVec.ofBool (b.getLsbD 1) ++ BitVec.ofBool (b.getLsbD 0) = b &&& 0x7F#8 := by
  revert b
  decide

theorem protFlags_fields (f4 f3 f2 f1 f0 : Bool) :
    (0#3 ++ BitVec.ofBool f4 ++ BitVec.ofBool f3 ++ BitVec.ofBool f2 ++ BitVec.ofBool f1 ++
        BitVec.ofBool f0).getLsbD 4 = f4 ∧
      (0#3 ++ BitVec.ofBool f4 ++ BitVec.ofBool f3 ++ BitVec.ofBool f2 ++ BitVec.ofBool f1 ++
        BitVec.ofBool f0).getLsbD 3 = f3 ∧
      (0#3 ++ BitVec.ofBool f4 ++ BitVec.ofBool f3 ++ BitVec.ofBool f2 ++ BitVec.ofBool f1 ++
        BitVec.ofBool f0).getLsbD 2 = f2 ∧
      (0#3 ++ BitVec.ofBool f4 ++ BitVec.ofBool f3 ++ BitVec.ofBool f2 ++ BitVec.ofBool f1 ++
        BitVec.ofBool f0).getLsbD 1 = f1 ∧
      (0#3 ++ BitVec.ofBool f4 ++ BitVec.ofBool f3 ++ BitVec.ofBool f2 ++ BitVec.ofBool f1 ++
        BitVec.ofBool f0).getLsbD 0 = f0 := by
  simp only [BitVec.getLsbD_append]
  simp

theorem protFlags_of_byte (b : Byte) :
    0#3 ++ BitVec.ofBool (b.getLsbD 4) ++ BitVec.ofBool (b.getLsbD 3) ++ BitVec.ofBool (b.getLsbD 2) ++
      BitVec.ofBool (b.getLsbD 1) ++ BitVec.ofBool (b.getLsbD 0) = b &&& 0x1F#8 := by
  revert b
  decide

theorem nodeFlags_fields (f1 f0 : Bool) :
    (0#6 ++ BitVec.ofBool f1 ++ BitVec.ofBool f0).getLsbD 1 = f1 ∧
      (0#6 ++ BitVec.ofBool f1 ++ BitVec.ofBool f0).getLsbD 0 = f0 := by
  simp only [BitVec.getLsbD_append]
  simp

theorem nodeFlags_of_byte (b : Byte) :
    0#6 ++ BitVec.ofBool (b.getLsbD 1) ++ BitVec.ofBool (b.getLsbD 0) = b &&& 3#8 := by
  revert b
  decide

end Sys2Proof.Machine
end

section
/-! PROOF. The records of a bank and their bytes (R129, R130, R195, Tables 31 to 34 and 53). -/

namespace Sys2Proof.Machine

/-- The flag of a two-valued field, read off the value picked by the flag. -/
theorem decide_pick {α : Type} [DecidableEq α] {x y : α} (h : y ≠ x) (b : Bool) :
    decide ((if b then x else y) = x) = b := by
  cases b
  · exact decide_eq_false h
  · exact decide_eq_true rfl

theorem ite_eq_none_iff {α : Type} {p : Prop} [Decidable p] {x : α} : (if p then some x else none) = none ↔ ¬p := by
  rw [ite_eq_right_iff]
  exact imp_congr_right fun _ => iff_of_false nofun not_false

/-! ### Strobe records and protection entries -/

theorem decodeStrobeRecord_eq (b0 b1 b2 b3 : Byte) :
    decodeStrobeRecord [b0, b1, b2, b3] =
      if b0.toNat ≤ 250 ∧ b1 ≠ 0 then some { address := b0, pulseWidth := b1 } else none := rfl

theorem decodeStrobeRecord_eq_none_iff {b0 b1 b2 b3 : Byte} :
    decodeStrobeRecord [b0, b1, b2, b3] = none ↔ 250 < b0.toNat ∨ b1 = 0 := by
  rw [decodeStrobeRecord_eq, ite_eq_none_iff, not_and_or, not_le, not_ne_iff]

theorem decodeStrobeRecord_encodeStrobeRecord {r : StrobeRecord} (ha : r.address.toNat ≤ 250) (hw : r.pulseWidth ≠ 0) :
    decodeStrobeRecord (encodeStrobeRecord r) = some r := by
  rw [encodeStrobeRecord, decodeStrobeRecord_eq, if_pos ⟨ha, hw⟩]

theorem encodeStrobeRecord_of_decode {b0 b1 b2 b3 : Byte} {r : StrobeRecord}
    (h : decodeStrobeRecord [b0, b1, b2, b3] = some r) : encodeStrobeRecord r = [b0, b1, 0, 0] := by
  obtain ⟨-, ⟨⟩⟩ := Option.ite_none_right_eq_some.1 ((decodeStrobeRecord_eq _ _ _ _).symm.trans h)
  rfl

theorem legSet_ofByte_bits (v : LegSet) : LegSet.ofByte (0#2 ++ v.bits) = v := by
  obtain ⟨a, b, c, d, e, f⟩ := v
  revert a b c d e f
  decide

theorem bits_ofByte (b : Byte) : 0#2 ++ (LegSet.ofByte b).bits = b &&& 0x3F#8 := by
  revert b
  decide

theorem legSetByte_iff {b : Byte} : b.extractLsb' 6 2 = 0 ↔ b.toNat < 64 := by
  revert b
  decide

theorem legSetByte_and_of_lt {b : Byte} (h : b.toNat < 64) : b &&& 0x3F#8 = b := by
  revert b
  decide

/-- The protection entry of the bytes that carry one. -/
def protEntryOf (b0 b1 b2 b4 b5 : Byte) : ProtEntry :=
  { use := if b0.getLsbD 0 then .active else .unused, assertLevel := if b0.getLsbD 1 then .high else .low,
    fast := b0.getLsbD 2, qualify := b1, legs := LegSet.ofByte b2,
    action := if b0.getLsbD 3 then .haltNode else .tripLegs, latch := if b0.getLsbD 4 then .auto else .latched,
    hold := halfOf b4 b5 }

theorem decodeProtEntry_eq (b0 b1 b2 b3 b4 b5 b6 b7 : Byte) :
    decodeProtEntry [b0, b1, b2, b3, b4, b5, b6, b7] =
      if b2.extractLsb' 6 2 = 0 ∧ halfOf b4 b5 ≠ 0 then some (protEntryOf b0 b1 b2 b4 b5) else none := rfl

theorem halfOf_eq_zero_iff {hi lo : Byte} : halfOf hi lo = 0 ↔ hi = 0 ∧ lo = 0 :=
  halfOf_inj (hi' := 0) (lo' := 0)

theorem encodeProtEntry_eq (e : ProtEntry) :
    encodeProtEntry e =
      [0#3 ++ BitVec.ofBool (decide (e.latch = .auto)) ++ BitVec.ofBool (decide (e.action = .haltNode)) ++
          BitVec.ofBool e.fast ++ BitVec.ofBool (decide (e.assertLevel = .high)) ++
          BitVec.ofBool (decide (e.use = .active)),
        e.qualify, 0#2 ++ e.legs.bits, 0, e.hold.extractLsb' 8 8, e.hold.extractLsb' 0 8, 0, 0] := rfl

theorem decodeProtEntry_encodeProtEntry {e : ProtEntry} (hh : e.hold ≠ 0) :
    decodeProtEntry (encodeProtEntry e) = some e := by
  rw [encodeProtEntry_eq, decodeProtEntry_eq, halfOf_extract, if_pos ⟨BitVec.extractLsb'_append_eq_left, hh⟩, protEntryOf,
    legSet_ofByte_bits, halfOf_extract]
  obtain ⟨h4, h3, h2, h1, h0⟩ := protFlags_fields (decide (e.latch = .auto)) (decide (e.action = .haltNode)) e.fast
    (decide (e.assertLevel = .high)) (decide (e.use = .active))
  simp only [h4, h3, h2, h1, h0]
  obtain ⟨use, level, fast, qualify, legs, action, latch, hold⟩ := e
  cases use <;> cases level <;> cases action <;> cases latch <;> rfl

theorem decodeProtEntry_eq_none_iff {b0 b1 b2 b3 b4 b5 b6 b7 : Byte} :
    decodeProtEntry [b0, b1, b2, b3, b4, b5, b6, b7] = none ↔ 64 ≤ b2.toNat ∨ (b4 = 0 ∧ b5 = 0) := by
  rw [decodeProtEntry_eq, ite_eq_none_iff, not_and_or, legSetByte_iff, not_lt, not_ne_iff, halfOf_eq_zero_iff]

theorem encodeProtEntry_of_decode {b0 b1 b2 b3 b4 b5 b6 b7 : Byte} {e : ProtEntry}
    (h : decodeProtEntry [b0, b1, b2, b3, b4, b5, b6, b7] = some e) :
    encodeProtEntry e = [b0 &&& 0x1F#8, b1, b2, 0, b4, b5, 0, 0] := by
  obtain ⟨⟨hlegs, -⟩, ⟨⟩⟩ := Option.ite_none_right_eq_some.1 ((decodeProtEntry_eq _ _ _ _ _ _ _ _).symm.trans h)
  have hhold := halfBytes_halfOf b4 b5
  rw [encodeProtEntry, protEntryOf]
  simp only [decide_pick (α := Latch) (by decide : Latch.latched ≠ .auto),
    decide_pick (α := ProtAction) (by decide : ProtAction.tripLegs ≠ .haltNode),
    decide_pick (α := Level) (by decide : Level.low ≠ .high), decide_pick (α := Use) (by decide : Use.unused ≠ .active),
    protFlags_of_byte, bits_ofByte, hhold, legSetByte_and_of_lt (legSetByte_iff.1 hlegs)]
  rfl

/-! ### The node record -/

/-- The node record of the bytes that carry one. -/
def nodeRecordOf (tolerance : BitVec 10) (b2 b3 b4 b5 : Byte) : NodeRecord :=
  { syncTolerance := tolerance, missLimit := b2.setWidth 4, delayComp := halfOf b4 b5, captureReports := b3.getLsbD 0,
    confirmEscalation := if b3.getLsbD 1 then .node else .leg }

theorem decodeNodeRecord_eq (b0 b1 b2 b3 b4 b5 b6 b7 : Byte) :
    decodeNodeRecord [b0, b1, b2, b3, b4, b5, b6, b7] =
      (tenOf b0 b1).bind fun tolerance =>
        if 1 ≤ b2.toNat ∧ b2.toNat ≤ 15 then some (nodeRecordOf tolerance b2 b3 b4 b5) else none := rfl

theorem encodeNodeRecord_eq (r : NodeRecord) :
    encodeNodeRecord r =
      [0#6 ++ r.syncTolerance.extractLsb' 8 2, r.syncTolerance.extractLsb' 0 8, 0#4 ++ r.missLimit,
        0#6 ++ BitVec.ofBool (decide (r.confirmEscalation = .node)) ++ BitVec.ofBool r.captureReports,
        r.delayComp.extractLsb' 8 8, r.delayComp.extractLsb' 0 8, 0, 0] := by
  have hmiss : r.missLimit.setWidth 8 = 0#4 ++ r.missLimit := by
    generalize r.missLimit = m
    revert m
    decide
  rw [encodeNodeRecord, tenBytes_eq, hmiss]
  rfl

theorem decodeNodeRecord_encodeNodeRecord {r : NodeRecord} (hm : r.missLimit ≠ 0) :
    decodeNodeRecord (encodeNodeRecord r) = some r := by
  have hrange : 1 ≤ (0#4 ++ r.missLimit).toNat ∧ (0#4 ++ r.missLimit).toNat ≤ 15 ∧
      (0#4 ++ r.missLimit).setWidth 4 = r.missLimit := by
    generalize r.missLimit = m at hm
    revert m
    decide
  obtain ⟨hlow, hhigh, hback⟩ := hrange
  obtain ⟨h1, h0⟩ := nodeFlags_fields (decide (r.confirmEscalation = .node)) r.captureReports
  rw [encodeNodeRecord_eq, decodeNodeRecord_eq, tenOf_extract, Option.bind_some, if_pos ⟨hlow, hhigh⟩, nodeRecordOf, hback,
    h1, h0, halfOf_extract]
  obtain ⟨tolerance, missLimit, delayComp, captureReports, escalation⟩ := r
  cases escalation <;> rfl

theorem decodeNodeRecord_eq_none_iff {b0 b1 b2 b3 b4 b5 b6 b7 : Byte} :
    decodeNodeRecord [b0, b1, b2, b3, b4, b5, b6, b7] = none ↔ 4 ≤ b0.toNat ∨ b2 = 0 ∨ 15 < b2.toNat := by
  have hzero : b2 = 0 ↔ b2.toNat = 0 := BitVec.toNat_inj.symm
  rw [decodeNodeRecord_eq, ← tenOf_eq_none_iff (lo := b1)]
  cases tenOf b0 b1 with
  | none => exact iff_of_true rfl (.inl rfl)
  | some tolerance =>
    rw [Option.bind_some, hzero, ite_eq_none_iff]
    simp only [reduceCtorEq, false_or]
    omega

theorem encodeNodeRecord_of_decode {b0 b1 b2 b3 b4 b5 b6 b7 : Byte} {r : NodeRecord}
    (h : decodeNodeRecord [b0, b1, b2, b3, b4, b5, b6, b7] = some r) :
    encodeNodeRecord r = [b0, b1, b2, b3 &&& 3#8, b4, b5, 0, 0] := by
  obtain ⟨tolerance, htol, hrest⟩ := Option.bind_eq_some_iff.1 ((decodeNodeRecord_eq _ _ _ _ _ _ _ _).symm.trans h)
  obtain ⟨⟨-, hhigh⟩, ⟨⟩⟩ := Option.ite_none_right_eq_some.1 hrest
  have hmiss : (b2.setWidth 4).setWidth 8 = b2 := by
    clear h hrest
    revert b2
    decide
  rw [encodeNodeRecord, nodeRecordOf]
  simp only [tenOf_eq_some_iff.1 htol, hmiss, halfBytes_halfOf, nodeFlags_of_byte,
    decide_pick (α := Escalation) (by decide : Escalation.leg ≠ .node)]
  rfl

/-! ### Leg records -/

/-- The leg record of the fields read from its bytes. -/
def legRecordOf (mode : LegMode) (deadUpper deadLower minOn : BitVec 10) (maxOn : BitVec 24)
    (confirmWindow : BitVec 10) (safeState : SafeState) (b1 b14 b15 : Byte) : LegRecord :=
  { mode := mode, address := b1, deadUpper := deadUpper, deadLower := deadLower, minOn := minOn, maxOn := maxOn,
    overlongAction := if b15.getLsbD 0 then .trip else .off, confirmWindow := confirmWindow,
    gapWaitsConfirm := b15.getLsbD 1, disagreeFilter := b14, polarity := if b15.getLsbD 2 then .lowOn else .highOn,
    capture := if b15.getLsbD 3 then .edges else .off, coast := if b15.getLsbD 4 then .off else .hold,
    safeState := safeState }

section
variable {b0 b1 b2 b3 b4 b5 b6 b7 b8 b9 b10 b11 b12 b13 b14 b15 : Byte}

theorem decodeLegRecord_eq :
    decodeLegRecord [b0, b1, b2, b3, b4, b5, b6, b7, b8, b9, b10, b11, b12, b13, b14, b15] =
      (LegMode.ofCode b0).bind fun mode => (tenOf b2 b3).bind fun deadUpper => (tenOf b4 b5).bind fun deadLower =>
        (tenOf b6 b7).bind fun minOn => (maxOnOf (quadOf b8 b9 b10 b11)).bind fun maxOn =>
          (tenOf b12 b13).bind fun confirmWindow => (SafeState.ofCode (b15.extractLsb' 5 2)).bind fun safeState =>
            if b1.toNat ≤ 250 then
              some (legRecordOf mode deadUpper deadLower minOn maxOn confirmWindow safeState b1 b14 b15)
            else none := rfl

theorem decodeLegRecord_eq_some_iff {r : LegRecord} :
    decodeLegRecord [b0, b1, b2, b3, b4, b5, b6, b7, b8, b9, b10, b11, b12, b13, b14, b15] = some r ↔
      LegMode.ofCode b0 = some r.mode ∧ tenOf b2 b3 = some r.deadUpper ∧ tenOf b4 b5 = some r.deadLower ∧
        tenOf b6 b7 = some r.minOn ∧ maxOnOf (quadOf b8 b9 b10 b11) = some r.maxOn ∧
        tenOf b12 b13 = some r.confirmWindow ∧ SafeState.ofCode (b15.extractLsb' 5 2) = some r.safeState ∧
        b1.toNat ≤ 250 ∧
        legRecordOf r.mode r.deadUpper r.deadLower r.minOn r.maxOn r.confirmWindow r.safeState b1 b14 b15 = r := by
  rw [decodeLegRecord_eq]
  simp only [Option.bind_eq_some_iff, Option.ite_none_right_eq_some, Option.some_inj]
  constructor
  · rintro ⟨mode, hmode, deadUpper, hupper, deadLower, hlower, minOn, hmin, maxOn, hmax, confirmWindow, hconfirm, safeState,
      hsafe, haddress, rfl⟩
    exact ⟨hmode, hupper, hlower, hmin, hmax, hconfirm, hsafe, haddress, rfl⟩
  · rintro ⟨hmode, hupper, hlower, hmin, hmax, hconfirm, hsafe, haddress, hr⟩
    exact ⟨_, hmode, _, hupper, _, hlower, _, hmin, _, hmax, _, hconfirm, _, hsafe, haddress, hr⟩

theorem decodeLegRecord_eq_none_iff :
    decodeLegRecord [b0, b1, b2, b3, b4, b5, b6, b7, b8, b9, b10, b11, b12, b13, b14, b15] = none ↔
      2 < b0.toNat ∨ 250 < b1.toNat ∨ 4 ≤ b2.toNat ∨ 4 ≤ b4.toNat ∨ 4 ≤ b6.toNat ∨
        (1 ≤ (quadOf b8 b9 b10 b11).toNat ∧ (quadOf b8 b9 b10 b11).toNat ≤ 999) ∨
        16000000 < (quadOf b8 b9 b10 b11).toNat ∨ 4 ≤ b12.toNat ∨ b15.extractLsb' 5 2 = 3#2 := by
  rw [decodeLegRecord_eq, ← modeOfCode_eq_none_iff, ← tenOf_eq_none_iff (lo := b3), ← tenOf_eq_none_iff (lo := b5),
    ← tenOf_eq_none_iff (lo := b7), ← tenOf_eq_none_iff (lo := b13), ← safeStateOfCode_eq_none_iff,
    ← or_assoc (a := 1 ≤ _ ∧ _), ← maxOnOf_eq_none_iff, ← not_le]
  cases LegMode.ofCode b0 <;> cases tenOf b2 b3 <;> cases tenOf b4 b5 <;> cases tenOf b6 b7 <;>
    cases maxOnOf (quadOf b8 b9 b10 b11) <;> cases tenOf b12 b13 <;> cases SafeState.ofCode (b15.extractLsb' 5 2) <;> simp

theorem encodeLegRecord_of_decode {r : LegRecord}
    (h : decodeLegRecord [b0, b1, b2, b3, b4, b5, b6, b7, b8, b9, b10, b11, b12, b13, b14, b15] = some r) :
    encodeLegRecord r = [b0, b1, b2, b3, b4, b5, b6, b7, b8, b9, b10, b11, b12, b13, b14, b15 &&& 0x7F#8] := by
  obtain ⟨hmode, hupper, hlower, hmin, hmax, hconfirm, hsafe, -, hr⟩ := decodeLegRecord_eq_some_iff.1 h
  rw [encodeLegRecord, tenOf_eq_some_iff.1 hupper, tenOf_eq_some_iff.1 hlower, tenOf_eq_some_iff.1 hmin,
    tenOf_eq_some_iff.1 hconfirm, (maxOnOf_eq_some_iff.1 hmax).1, quadBytes_quadOf, modeOfCode_eq_some_iff.1 hmode,
    safeStateOfCode_eq_some_iff.1 hsafe, ← hr, legRecordOf]
  simp only [decide_pick (α := Coast) (by decide : Coast.hold ≠ .off),
    decide_pick (α := Capture) (by decide : Capture.off ≠ .edges),
    decide_pick (α := Polarity) (by decide : Polarity.highOn ≠ .lowOn),
    decide_pick (α := OverlongAction) (by decide : OverlongAction.off ≠ .trip), legFlags_of_byte]
  rfl

end

theorem quadBytes_setWidth (x : BitVec 24) :
    quadBytes (x.setWidth 32) = [0, x.extractLsb' 16 8, x.extractLsb' 8 8, x.extractLsb' 0 8] := by
  have hx := x.isLt
  have hbyte (k : Nat) : (x.setWidth 32).extractLsb' k 8 = x.extractLsb' k 8 := by
    apply BitVec.eq_of_toNat_eq
    rw [BitVec.extractLsb'_toNat, BitVec.extractLsb'_toNat, BitVec.toNat_setWidth_of_le (by decide)]
  have htop : x.extractLsb' 24 8 = 0 := by
    apply BitVec.eq_of_toNat_eq
    rw [BitVec.extractLsb'_toNat, Nat.shiftRight_eq_div_pow, Nat.div_eq_of_lt hx]
    rfl
  simp only [quadBytes, quadByte, hbyte, Nat.reduceMul, Nat.reduceSub, htop]

theorem encodeLegRecord_eq (r : LegRecord) :
    encodeLegRecord r =
      [r.mode.code, r.address, 0#6 ++ r.deadUpper.extractLsb' 8 2, r.deadUpper.extractLsb' 0 8,
        0#6 ++ r.deadLower.extractLsb' 8 2, r.deadLower.extractLsb' 0 8, 0#6 ++ r.minOn.extractLsb' 8 2,
        r.minOn.extractLsb' 0 8, 0, r.maxOn.extractLsb' 16 8, r.maxOn.extractLsb' 8 8, r.maxOn.extractLsb' 0 8,
        0#6 ++ r.confirmWindow.extractLsb' 8 2, r.confirmWindow.extractLsb' 0 8, r.disagreeFilter,
        0#1 ++ r.safeState.code ++ BitVec.ofBool (decide (r.coast = .off)) ++
          BitVec.ofBool (decide (r.capture = .edges)) ++ BitVec.ofBool (decide (r.polarity = .lowOn)) ++
          BitVec.ofBool r.gapWaitsConfirm ++ BitVec.ofBool (decide (r.overlongAction = .trip))] := by
  simp only [encodeLegRecord, tenBytes_eq, quadBytes_setWidth]
  rfl

theorem decodeLegRecord_encodeLegRecord {r : LegRecord} (ha : r.address.toNat ≤ 250)
    (hm : r.maxOn = 0 ∨ (1000 ≤ r.maxOn.toNat ∧ r.maxOn.toNat ≤ 16000000)) :
    decodeLegRecord (encodeLegRecord r) = some r := by
  obtain ⟨hsafe, h4, h3, h2, h1, h0⟩ := legFlags_fields r.safeState.code (decide (r.coast = .off))
    (decide (r.capture = .edges)) (decide (r.polarity = .lowOn)) r.gapWaitsConfirm (decide (r.overlongAction = .trip))
  have hquad := quadBytes_eq_iff.1 (quadBytes_setWidth r.maxOn)
  rw [encodeLegRecord_eq, decodeLegRecord_eq_some_iff]
  refine ⟨modeOfCode_eq_some_iff.2 rfl, tenOf_extract _, tenOf_extract _, tenOf_extract _,
    maxOnOf_eq_some_iff.2 ⟨hquad, hm⟩, tenOf_extract _, safeStateOfCode_eq_some_iff.2 hsafe.symm, ha, ?_⟩
  rw [legRecordOf, h4, h3, h2, h1, h0]
  obtain ⟨mode, address, deadUpper, deadLower, minOn, maxOn, overlongAction, confirmWindow, gapWaitsConfirm,
    disagreeFilter, polarity, capture, coast, safeState⟩ := r
  cases overlongAction <;> cases polarity <;> cases capture <;> cases coast <;> rfl

/-- Settles O15, table by table. -/
theorem bankRecordsReadBackInRange : Obligations.BankRecordsReadBackInRange := by
  refine ⟨⟨fun r => decodeLegRecord_encodeLegRecord, fun r => decodeStrobeRecord_encodeStrobeRecord,
    fun e => decodeProtEntry_encodeProtEntry, fun r => decodeNodeRecord_encodeNodeRecord⟩,
    ⟨fun r => ?_, fun r => rfl, encodeProtEntry_eq, encodeNodeRecord_eq⟩,
    fun b0 b1 b2 b3 b4 b5 b6 b7 b8 b9 b10 b11 b12 b13 b14 b15 =>
      ⟨decodeLegRecord_eq_none_iff, fun r => encodeLegRecord_of_decode⟩,
    fun b0 b1 b2 b3 => ⟨decodeStrobeRecord_eq_none_iff, fun r => encodeStrobeRecord_of_decode⟩,
    fun b0 b1 b2 b3 b4 b5 b6 b7 => ⟨decodeProtEntry_eq_none_iff, fun e => encodeProtEntry_of_decode⟩,
    fun b0 b1 b2 b3 b4 b5 b6 b7 => ⟨decodeNodeRecord_eq_none_iff, fun r => encodeNodeRecord_of_decode⟩⟩
  rw [encodeLegRecord_eq]
  cases r.mode <;> cases r.safeState <;> rfl

end Sys2Proof.Machine
end

section
/-! PROOF. READ and WRITE reach one record of a bank (R129, R130, R186). -/

namespace Sys2Proof.Machine

/-! ### What the readers accept -/

theorem decodeLegRecord_encode_of_decode {bytes : List Byte} {r : LegRecord} (h : decodeLegRecord bytes = some r) :
    decodeLegRecord (encodeLegRecord r) = some r := by
  unfold decodeLegRecord at h
  split at h
  · obtain ⟨-, -, -, -, hmax, -, -, haddress, hr⟩ := decodeLegRecord_eq_some_iff.1 h
    refine decodeLegRecord_encodeLegRecord ?_ (maxOnOf_eq_some_iff.1 hmax).2
    rw [← hr]
    exact haddress
  · exact absurd h nofun

theorem decodeStrobeRecord_encode_of_decode {bytes : List Byte} {r : StrobeRecord}
    (h : decodeStrobeRecord bytes = some r) : decodeStrobeRecord (encodeStrobeRecord r) = some r := by
  unfold decodeStrobeRecord at h
  split at h
  · obtain ⟨⟨ha, hw⟩, ⟨⟩⟩ := Option.ite_none_right_eq_some.1 h
    exact decodeStrobeRecord_encodeStrobeRecord ha hw
  · exact absurd h nofun

theorem decodeProtEntry_encode_of_decode {bytes : List Byte} {e : ProtEntry} (h : decodeProtEntry bytes = some e) :
    decodeProtEntry (encodeProtEntry e) = some e := by
  unfold decodeProtEntry at h
  split at h
  · obtain ⟨⟨-, hh⟩, ⟨⟩⟩ := Option.ite_none_right_eq_some.1 h
    exact decodeProtEntry_encodeProtEntry hh
  · exact absurd h nofun

theorem decodeNodeRecord_encode_of_decode {bytes : List Byte} {r : NodeRecord} (h : decodeNodeRecord bytes = some r) :
    decodeNodeRecord (encodeNodeRecord r) = some r := by
  unfold decodeNodeRecord at h
  split at h
  · obtain ⟨tolerance, -, hrest⟩ := Option.bind_eq_some_iff.1 h
    obtain ⟨⟨hlow, hhigh⟩, ⟨⟩⟩ := Option.ite_none_right_eq_some.1 hrest
    refine decodeNodeRecord_encodeNodeRecord fun hzero => ?_
    have := congrArg BitVec.toNat hzero
    rw [BitVec.toNat_setWidth] at this
    simp only [BitVec.ofNat_eq_ofNat, BitVec.toNat_ofNat] at this
    omega
  · exact absurd h nofun

/-! ### The records of a bank -/

/-- The names TABLE and INDEX do not reach. -/
theorem recordOf_eq_none_iff (table index : Byte) :
    recordOf table index = none ↔
      3 < table.toNat ∨ (table = 0 ∧ 5 < index.toNat) ∨ (table = 1 ∧ 1 < index.toNat) ∨
        (table = 2 ∧ 3 < index.toNat) ∨ (table = 3 ∧ 0 < index.toNat) := by
  have value (a k : Byte) : a = k ↔ a.toNat = k.toNat := BitVec.toNat_inj.symm
  simp only [recordOf, legOfIndex, value, BitVec.ofNat_eq_ofNat, BitVec.toNat_ofNat]
  split_ifs <;> simp <;> omega

/-- A record's bytes are whole units. -/
theorem quadsOfBytes_readRecord (b : Bank) (name : RecordName) : ∃ data, quadsOfBytes (readRecord b name) = some data := by
  cases name with
  | leg l =>
    rw [readRecord, encodeLegRecord_eq]
    exact ⟨_, rfl⟩
  | strobe x => exact ⟨_, rfl⟩
  | prot n =>
    rw [readRecord, encodeProtEntry_eq]
    exact ⟨_, rfl⟩
  | node =>
    rw [readRecord, encodeNodeRecord_eq]
    exact ⟨_, rfl⟩

/-- The named record is replaced, every other one is kept. -/
theorem readRecord_writeRecord_other {b c : Bank} {name other : RecordName} {bytes : List Byte}
    (h : writeRecord b name bytes = some c) (hne : other ≠ name) : readRecord c other = readRecord b other := by
  cases name <;> obtain ⟨r, -, rfl⟩ := Option.map_eq_some_iff.1 h <;> cases other <;>
    simp_all [readRecord, PerLeg.get_set, PerStrobe.get_set, PerChan.get_set]

/-! ### The requests -/

section
variable {h : ManageHead} {bank table index : Byte} {record : List Byte} {name : RecordName} {s : State}

theorem doRead_of_none (hr : recordOf table index = none) : doRead h bank table index s = respond h 4 .badTarget [] s := by
  rw [doRead, hr]

theorem doRead_of_some (hr : recordOf table index = some name) :
    doRead h bank table index s =
      if bank = 0 then respond h 4 .done ((quadsOfBytes (readRecord s.activeBank name)).getD []) s
      else if bank = 1 then respond h 4 .done ((quadsOfBytes (readRecord s.shadowBank name)).getD []) s
      else respond h 4 .badValue [] s := by
  rw [doRead, hr]

theorem doWrite_of_none (hr : recordOf table index = none) :
    doWrite h table index record s = respond h 5 .badTarget [] s := by
  rw [doWrite, hr]

theorem doWrite_of_pending (hr : recordOf table index = some name) (hp : s.bks.pending.isSome = true) :
    doWrite h table index record s = respond h 5 .locked [] s := by
  rw [doWrite, hr]
  exact if_pos hp

theorem doWrite_of_bad (hr : recordOf table index = some name) (hp : s.bks.pending = none)
    (hw : writeRecord s.shadowBank name record = none) : doWrite h table index record s = respond h 5 .badValue [] s := by
  rw [doWrite, hr]
  dsimp only
  rw [if_neg (by simp [hp]), hw]

theorem doWrite_of_good {b : Bank} (hr : recordOf table index = some name) (hp : s.bks.pending = none)
    (hw : writeRecord s.shadowBank name record = some b) :
    doWrite h table index record s = respond h 5 .done [] (s.setBks (s.bks.withShadow b)) := by
  rw [doWrite, hr]
  dsimp only
  rw [if_neg (by simp [hp]), hw]

end

/-- The data of a record in the active or the shadow bank. -/
theorem bytesOfQuads_readRecord (b : Bank) (name : RecordName) :
    bytesOfQuads ((quadsOfBytes (readRecord b name)).getD []) = readRecord b name := by
  obtain ⟨data, hd⟩ := quadsOfBytes_readRecord b name
  rw [hd, Option.getD_some, bytesOfQuads_of_quadsOfBytes hd]

/-- Settles O52, request by request; the bytes are those of O15. -/
theorem readAndWriteReachOneRecord : Obligations.ReadAndWriteReachOneRecord := by
  refine ⟨fun h table index s v hn hv => ⟨fun bank hfresh => ?_, fun record hlen hfresh => ?_⟩,
    ⟨recordOf_eq_none_iff, ?_, ?_, ?_, rfl⟩, fun b => ⟨fun _ => rfl, fun _ => rfl, fun _ => rfl, rfl⟩, fun b name record => ?_⟩
  · have hexec : exec (.read h bank table index) s =
        .next (passOn (.manage h (.read bank table index)) (doRead h bank table index v)) := by
      rw [exec_of_fresh (i := .read h bank table index) rfl rfl hfresh (decide_eq_true hn), hv]
      rfl
    rw [hexec]
    refine ⟨fun hr => by rw [doRead_of_none hr], fun name hr => ?_⟩
    rw [doRead_of_some hr]
    refine ⟨fun h0 => ⟨_, bytesOfQuads_readRecord s.activeBank name, ?_⟩,
      fun h1 => ⟨_, bytesOfQuads_readRecord s.shadowBank name, ?_⟩, fun h0 h1 => by rw [if_neg h0, if_neg h1]⟩
    · rw [if_pos h0, hv]
      rfl
    · rw [if_neg (by rw [h1]; decide), if_pos h1, hv]
      rfl
  · have hexec : exec (.write h table index record) s =
        .next (passOn (.manage h (.write table index record)) (doWrite h table index record v)) := by
      rw [exec_of_fresh (i := .write h table index record) rfl hlen hfresh (decide_eq_true hn), hv]
      rfl
    rw [hexec]
    refine ⟨fun hr => by rw [doWrite_of_none hr], fun name hr => ⟨fun hp => ?_, fun hp hw => ?_, fun b hp hw => ?_⟩⟩
    · rw [doWrite_of_pending hr (by rw [hv]; exact hp)]
    · rw [doWrite_of_bad hr (by rw [hv]; exact hp) (by rw [hv]; exact hw)]
    · refine ⟨v.setBks (v.bks.withShadow b), ?_, rfl, shadowBank_setBks_withShadow _ _ _, ?_, ?_, ?_⟩
      · rw [doWrite_of_good hr (by rw [hv]; exact hp) (by rw [hv]; exact hw)]
      · rw [activeBank_setBks_withShadow, hv]
        rfl
      · rw [hv]
        exact active_withShadow b s.bks
      · rw [hv]
        exact (pending_withShadow b s.bks).trans hp
  · intro l
    cases l <;> rfl
  · intro x
    cases x <;> rfl
  · intro n
    cases n <;> rfl
  · refine ⟨by cases name <;> exact Option.map_eq_none_iff, fun c hc =>
      ⟨fun other hne => readRecord_writeRecord_other hc hne, ?_⟩⟩
    cases name with
    | leg l =>
      obtain ⟨r, hr, rfl⟩ := Option.map_eq_some_iff.1 hc
      have hget : (b.legs.set l r).get l = r := PerLeg.get_set_same _ _ _
      exact ⟨hr.trans (congrArg some hget.symm),
        (congrArg (fun x => decodeLegRecord (encodeLegRecord x)) hget).trans
          ((decodeLegRecord_encode_of_decode hr).trans hr.symm), by rw [hget]⟩
    | strobe x =>
      obtain ⟨r, hr, rfl⟩ := Option.map_eq_some_iff.1 hc
      have hget : (b.strobes.set x r).get x = r := PerStrobe.get_set_same _ _ _
      exact ⟨hr.trans (congrArg some hget.symm),
        (congrArg (fun x => decodeStrobeRecord (encodeStrobeRecord x)) hget).trans
          ((decodeStrobeRecord_encode_of_decode hr).trans hr.symm), by rw [hget]⟩
    | prot n =>
      obtain ⟨e, he, rfl⟩ := Option.map_eq_some_iff.1 hc
      have hget : (b.prot.set n e).get n = e := PerChan.get_set_same _ _ _
      exact ⟨he.trans (congrArg some hget.symm),
        (congrArg (fun x => decodeProtEntry (encodeProtEntry x)) hget).trans
          ((decodeProtEntry_encode_of_decode he).trans he.symm), by rw [hget]⟩
    | node =>
      obtain ⟨r, hr, rfl⟩ := Option.map_eq_some_iff.1 hc
      exact ⟨hr, (decodeNodeRecord_encode_of_decode hr).trans hr.symm, rfl⟩

end Sys2Proof.Machine
end

section
/-! PROOF. Frames read back from their bytes (R193 to R195, Tables 48 to 50). -/

namespace Sys2Proof.Machine

/-! ### The check (R193) -/

theorem length_withCheck (content : List Byte) : (withCheck content).length = content.length + 2 := by
  rw [withCheck, List.length_append]
  rfl

/-- A nonempty content passes its own check. -/
theorem goodContent_withCheck {content : List Byte} (h : content ≠ []) : goodContent (withCheck content) = some content := by
  have hpos : 0 < content.length := List.length_pos_iff.2 h
  have hlen : (withCheck content).length - 2 = content.length := by rw [length_withCheck, Nat.add_sub_cancel]
  have htake : (withCheck content).take content.length = content := List.take_left
  have hdrop : (withCheck content).drop content.length = halfBytes (frameCheck content) := List.drop_left
  rw [goodContent, if_neg (by rw [length_withCheck]; omega)]
  simp only [hlen, htake, hdrop, if_true]

theorem hear_withCheck {content : List Byte} (h : content ≠ []) : hear (withCheck content) = hearContent content := by
  rw [hear, goodContent_withCheck h]

/-! ### CYCLE frames -/

theorem entryKindOfCode_code (k : EntryKind) : entryKindOfCode (entryKindCode k) = some k := by cases k <;> rfl

theorem targetOfCode_code (x : Target) : targetOfCode (targetCode x) = some x := by cases x <;> rfl

theorem decodeEntries_encode (es : List Entry) : decodeEntries (es.flatMap encodeEntry) = some es := by
  induction es with
  | nil => rfl
  | cons e es ih =>
    show ((entryKindOfCode ((entryKindCode e.kind ++ targetCode e.target).extractLsb' 4 4)).bind fun kind =>
      (targetOfCode ((entryKindCode e.kind ++ targetCode e.target).extractLsb' 0 4)).bind fun target =>
        (decodeEntries (es.flatMap encodeEntry)).bind fun others => some (Entry.mk e.address kind target
          (halfOf (e.offset.extractLsb' 8 8) (e.offset.extractLsb' 0 8))
          (halfOf (e.width.extractLsb' 8 8) (e.width.extractLsb' 0 8)) :: others)) = some (e :: es)
    rw [BitVec.extractLsb'_append_eq_left, BitVec.extractLsb'_append_eq_right, entryKindOfCode_code, targetOfCode_code, ih,
      halfOf_extract, halfOf_extract]
    rfl

theorem byte_ofNat_toNat {n : Nat} (h : n ≤ 64) : (BitVec.ofNat 8 n).toNat = n := by
  rw [BitVec.toNat_ofNat, Nat.mod_eq_of_lt (by omega)]

theorem hear_cycle {f : CycleFrame} (h : f.entries.length ≤ 64) : hearContent (DownFrame.cycle f).content = .down (.cycle f) := by
  show (match decodeEntries (f.entries.flatMap encodeEntry) with
    | some es => _
    | none => _) = _
  rw [decodeEntries_encode]
  show (if (BitVec.ofNat 8 f.entries.length).toNat ≤ 64 ∧ f.entries.length = (BitVec.ofNat 8 f.entries.length).toNat then
    Heard.down (.cycle { number := halfOf _ _, period := halfOf _ _, entries := f.entries }) else .bad) = _
  rw [byte_ofNat_toNat h, if_pos ⟨h, rfl⟩, halfOf_extract, halfOf_extract]

/-! ### MANAGE frames -/

/-- The parameters of a request of allowed length are read as that request. -/
theorem decodeRequest_params {h : ManageHead} {r : Request} (hw : (DownFrame.manage h r).formOk = true) :
    decodeRequest r.code r.params = some r := by
  cases r with
  | echo data =>
    have hlen : (bytesOfQuads data).length ≤ 12 := by
      rw [length_bytesOfQuads]
      exact Nat.mul_le_mul_left 4 (of_decide_eq_true hw)
    show (if (bytesOfQuads data).length ≤ 12 then (quadsOfBytes (bytesOfQuads data)).map Request.echo else none) = _
    rw [if_pos hlen, quadsOfBytes_bytesOfQuads]
    rfl
  | counters g p f => cases f <;> rfl
  | write t i record =>
    show (if writeLengthOk t record.length then some (Request.write t i record) else none) = _
    exact if_pos hw
  | commitImmediate x => exact congrArg (fun x => some (Request.commitImmediate x)) (halfOf_extract x)
  | commitTargeted x => exact congrArg (fun x => some (Request.commitTargeted x)) (halfOf_extract x)
  | unknown code p =>
    have hlen : p.length ≤ 64 := of_decide_eq_true hw
    cases code <;> exact if_pos hlen
  | _ => rfl

theorem hearManage_of_some {dest seq b3 : Byte} {params : List Byte} {r : Request}
    (hr : decodeRequest (b3.extractLsb' 0 4) params = some r) :
    hearManage (dest :: seq :: b3 :: params) =
      .down (.manage { dest := dest, seq := seq, spare := b3.extractLsb' 4 4 } r) := by
  rw [hearManage, hr]

theorem hear_manage {h : ManageHead} {r : Request} (hw : (DownFrame.manage h r).formOk = true) :
    hearContent (DownFrame.manage h r).content = .down (.manage h r) := by
  have hcode : (h.spare ++ r.code).extractLsb' 0 4 = r.code := BitVec.extractLsb'_append_eq_right
  have hspare : (h.spare ++ r.code).extractLsb' 4 4 = h.spare := BitVec.extractLsb'_append_eq_left
  show hearManage (h.dest :: h.seq :: (h.spare ++ r.code) :: r.params) = _
  rw [hearManage_of_some (hcode.symm ▸ decodeRequest_params hw), hspare]

/-! ### RETURN frames -/

theorem hear_return {f : ReturnFrame} (h : f.formOk = true) : hearContent f.content = .up f := by
  have hlen : f.payload.length ≤ 64 := by
    simp only [ReturnFrame.formOk, Bool.and_eq_true, decide_eq_true_iff] at h
    exact h.1.1.1.1
  show (match quadsOfBytes (bytesOfQuads f.payload) with
    | some payload => _
    | none => _) = _
  rw [quadsOfBytes_bytesOfQuads]
  show (if (BitVec.ofNat 8 f.payload.length).toNat = f.payload.length ∧ f.formOk then Heard.up f else .bad) = _
  rw [byte_ofNat_toNat hlen, if_pos ⟨rfl, h⟩]

/-- Settles O14, kind by kind. -/
theorem framesReadBack : Obligations.FramesReadBack := by
  refine ⟨fun f h => ?_, fun f h => (hear_withCheck (content := f.content) nofun).trans (hear_return h)⟩
  cases f with
  | enum hop => exact hear_withCheck nofun
  | cycle f => exact (hear_withCheck (content := (DownFrame.cycle f).content) nofun).trans (hear_cycle (of_decide_eq_true h))
  | manage head r => exact (hear_withCheck (content := (DownFrame.manage head r).content) nofun).trans (hear_manage h)

end Sys2Proof.Machine
end

section
/-! PROOF. The report queue: offers, evictions and the order of removal (R145 to R154). -/

namespace Sys2Proof.Machine

/-! ### Scans of the queue -/

section
variable {k : RecClass} {q rest : List Record} {v : Record}

theorem takeNewest_cons (k : RecClass) (r : Record) (q : List Record) :
    takeNewest k (r :: q) =
      ((takeNewest k q).map fun x => (x.1, r :: x.2)).or (if r.cls = k then some (r, q) else none) := by
  cases h : takeNewest k q <;> simp [takeNewest, h]

theorem takeNewest_eq_none_iff : takeNewest k q = none ↔ ∀ x ∈ q, x.cls ≠ k := by
  induction q with
  | nil => exact iff_of_true rfl (List.forall_mem_nil _)
  | cons r q ih =>
    rw [takeNewest_cons, Option.or_eq_none_iff, Option.map_eq_none_iff, ih, ite_eq_none_iff, List.forall_mem_cons, and_comm]

/-- The newest record of a class, and the queue around it. -/
theorem takeNewest_append {before after : List Record} (hv : v.cls = k) (ha : ∀ x ∈ after, x.cls ≠ k) :
    takeNewest k (before ++ v :: after) = some (v, before ++ after) := by
  induction before with
  | nil => rw [List.nil_append, takeNewest_cons, takeNewest_eq_none_iff.2 ha, if_pos hv]; rfl
  | cons r before ih => rw [List.cons_append, takeNewest_cons, ih]; rfl

theorem takeOldest_cons (k : RecClass) (r : Record) (q : List Record) :
    takeOldest k (r :: q) =
      if r.cls = k then some (r, q) else (takeOldest k q).map fun x => (x.1, r :: x.2) := by
  cases h : takeOldest k q <;> simp [takeOldest, h]

theorem takeOldest_eq_none_iff : takeOldest k q = none ↔ ∀ x ∈ q, x.cls ≠ k := by
  induction q with
  | nil => exact iff_of_true rfl (List.forall_mem_nil _)
  | cons r q ih =>
    rw [takeOldest_cons, List.forall_mem_cons, ← ih]
    by_cases hr : r.cls = k
    · exact iff_of_false (by rw [if_pos hr]; exact Option.some_ne_none _) fun h => h.1 hr
    · rw [if_neg hr, Option.map_eq_none_iff, and_iff_right hr]

/-- The oldest record of a class, and the queue around it. -/
theorem takeOldest_eq_some_iff :
    takeOldest k q = some (v, rest) ↔
      ∃ before after, q = before ++ v :: after ∧ rest = before ++ after ∧ v.cls = k ∧ ∀ x ∈ before, x.cls ≠ k := by
  constructor
  · induction q generalizing rest with
    | nil => exact fun h => absurd h (Option.some_ne_none _).symm
    | cons r q ih =>
      rw [takeOldest_cons]
      split_ifs with hr
      · rintro ⟨⟩
        exact ⟨[], q, rfl, rfl, hr, List.forall_mem_nil _⟩
      · rw [Option.map_eq_some_iff]
        rintro ⟨⟨x, others⟩, hx, ⟨⟩⟩
        obtain ⟨before, after, rfl, rfl, hk, hb⟩ := ih hx
        exact ⟨r :: before, after, rfl, rfl, hk, List.forall_mem_cons.2 ⟨hr, hb⟩⟩
  · rintro ⟨before, after, rfl, rfl, hk, hb⟩
    induction before with
    | nil => rw [List.nil_append, takeOldest_cons, if_pos hk]; rfl
    | cons r before ih =>
      obtain ⟨hr, hb⟩ := List.forall_mem_cons.1 hb
      rw [List.cons_append, takeOldest_cons, if_neg hr, ih hb]
      rfl

end

/-! ### The order of removal (R153) -/

theorem rank_injective {j k : RecClass} (h : j.rank = k.rank) : j = k := by
  cases j <;> cases k <;> first | rfl | exact absurd h (by decide)

section
variable {q rest : List Record} {r : Record}

theorem takeOldest_of_lower {j : RecClass} (hmin : ∀ x ∈ q, r.cls.rank ≤ x.cls.rank) (hj : j.rank < r.cls.rank) :
    takeOldest j q = none :=
  takeOldest_eq_none_iff.2 fun x hx he => absurd (hmin x hx) (by rw [he]; omega)

/-- The oldest record of the highest class present is the head. -/
theorem removalHead_of_takeOldest (h : takeOldest r.cls q = some (r, rest))
    (hmin : ∀ x ∈ q, r.cls.rank ≤ x.cls.rank) : removalHead q = some (r, rest) := by
  have hlower {j : RecClass} : j.rank < r.cls.rank → takeOldest j q = none := takeOldest_of_lower hmin
  unfold removalHead
  cases hc : r.cls with
  | f => rw [← hc, h]
  | m => rw [hlower (by rw [hc]; decide), ← hc, h]
  | e => rw [hlower (by rw [hc]; decide), hlower (by rw [hc]; decide), ← hc, h]
  | c => rw [hlower (by rw [hc]; decide), hlower (by rw [hc]; decide), hlower (by rw [hc]; decide), ← hc, h]

/-- A queue that holds a record has one of the highest class present. -/
theorem exists_oldest_of_highest (hq : q ≠ []) :
    ∃ r rest, takeOldest r.cls q = some (r, rest) ∧ ∀ x ∈ q, r.cls.rank ≤ x.cls.rank := by
  obtain ⟨m, hm, hmin⟩ := q.toFinset.exists_min_image (fun x => x.cls.rank)
    (List.toFinset_nonempty_iff q |>.2 hq)
  rw [List.mem_toFinset] at hm
  cases ht : takeOldest m.cls q with
  | none => exact absurd rfl (takeOldest_eq_none_iff.1 ht m hm)
  | some x =>
    obtain ⟨before, after, hq, -, hc, -⟩ := takeOldest_eq_some_iff.1 ht
    exact ⟨x.1, x.2, by rw [hc]; exact ht, fun y hy => by rw [hc]; exact hmin y (List.mem_toFinset.2 hy)⟩

theorem removalHead_eq_some_iff :
    removalHead q = some (r, rest) ↔
      takeOldest r.cls q = some (r, rest) ∧ ∀ x ∈ q, r.cls.rank ≤ x.cls.rank := by
  refine ⟨fun h => ?_, fun h => removalHead_of_takeOldest h.1 h.2⟩
  have hq : q ≠ [] := by rintro rfl; exact absurd h (Option.some_ne_none _).symm
  obtain ⟨r', rest', ht, hmin⟩ := exists_oldest_of_highest hq
  have heq := (removalHead_of_takeOldest ht hmin).symm.trans h
  obtain ⟨⟩ := heq
  exact ⟨ht, hmin⟩

theorem removalHead_eq_none_iff : removalHead q = none ↔ q = [] := by
  refine ⟨fun h => by_contra fun hq => ?_, by rintro rfl; rfl⟩
  obtain ⟨r, rest, ht, hmin⟩ := exists_oldest_of_highest hq
  exact absurd ((removalHead_of_takeOldest ht hmin).symm.trans h) (Option.some_ne_none _)

end

/-- Settles O17, by the scan for the highest class present. -/
theorem removalTakesTheOldestOfTheHighestClass : Obligations.RemovalTakesTheOldestOfTheHighestClass := by
  refine fun q => ⟨removalHead_eq_none_iff, fun r rest => ?_⟩
  rw [removalHead_eq_some_iff, takeOldest_eq_some_iff]
  constructor
  · rintro ⟨⟨before, after, hq, hrest, -, hb⟩, hmin⟩
    exact ⟨before, after, hq, hrest, hb, hmin⟩
  · rintro ⟨before, after, hq, hrest, hb, hmin⟩
    exact ⟨⟨before, after, hq, hrest, rfl, hb⟩, hmin⟩

/-! ### Offers (R147 to R152) -/

theorem mem_evictable_iff {j k : RecClass} : k ∈ evictable j ↔ (j = .f ∨ j = .m) ∧ j.rank < k.rank := by
  cases j <;> cases k <;> decide

theorem evictable_descending (j : RecClass) : (evictable j).Pairwise fun a b => b.rank < a.rank := by
  cases j <;> decide

section
variable {ks : List RecClass} {q : List Record} {v : Record}

theorem chooseVictim_eq_none (h : ∀ k ∈ ks, ∀ x ∈ q, x.cls ≠ k) : chooseVictim ks q = none := by
  induction ks with
  | nil => rfl
  | cons k ks ih =>
    obtain ⟨hk, hks⟩ := List.forall_mem_cons.1 h
    rw [chooseVictim, takeNewest_eq_none_iff.2 hk]
    exact ih hks

/-- The victim is the newest record of the lowest class present, where that class may be evicted. -/
theorem chooseVictim_append {before after : List Record} (hd : ks.Pairwise fun a b => b.rank < a.rank)
    (hq : q = before ++ v :: after) (hv : v.cls ∈ ks) (hmax : ∀ x ∈ q, x.cls.rank ≤ v.cls.rank)
    (ha : ∀ x ∈ after, x.cls ≠ v.cls) : chooseVictim ks q = some (v, before ++ after) := by
  induction ks with
  | nil => exact absurd hv List.not_mem_nil
  | cons k ks ih =>
    rw [List.pairwise_cons] at hd
    rw [chooseVictim]
    by_cases hk : v.cls = k
    · rw [← hk, hq, takeNewest_append rfl ha]
    · have hin : v.cls ∈ ks := (List.mem_cons.1 hv).resolve_left hk
      have hnone : takeNewest k q = none :=
        takeNewest_eq_none_iff.2 fun x hx he => absurd (hmax x hx) (by rw [he, not_le]; exact hd.1 _ hin)
      rw [hnone]
      exact ih hd.2 hin

end

/-- A class F or M record is no EDGE record. -/
theorem edgeLeg_of_class {b : RecBody} (h : b.cls = .f ∨ b.cls = .m) : b.edgeLeg = none := by
  cases b with
  | edge => exact absurd h (by simp [RecBody.cls])
  | _ => rfl

section
variable {b : RecBody} {s : State}

theorem report_of_room (h : s.rpu.queue.length < 48) :
    report b s = enqueue { seq := s.rpu.nextSeq, body := b } (advanceSeq s) :=
  offerRecord_of_room (s := advanceSeq s) h

theorem report_of_no_victim (h : 48 ≤ s.rpu.queue.length) (hv : chooseVictim (evictable b.cls) s.rpu.queue = none) :
    report b s = dropOffered { seq := s.rpu.nextSeq, body := b } (advanceSeq s) :=
  offerRecord_of_no_victim (s := advanceSeq s) (Nat.not_lt.2 h) hv

theorem report_of_victim {v : Record} {rest : List Record} (h : 48 ≤ s.rpu.queue.length)
    (hv : chooseVictim (evictable b.cls) s.rpu.queue = some (v, rest)) :
    report b s = enqueue { seq := s.rpu.nextSeq, body := b } (evict v rest (advanceSeq s)) :=
  offerRecord_of_victim (s := advanceSeq s) (Nat.not_lt.2 h) hv

/-- A record that may evict nothing present finds no victim. -/
theorem chooseVictim_of_none_lower {q : List Record} {j : RecClass}
    (h : ∀ r ∈ q, r.cls.rank ≤ j.rank ∨ (j = .e ∧ r.cls = .c)) : chooseVictim (evictable j) q = none := by
  refine chooseVictim_eq_none fun k hk x hx he => ?_
  obtain ⟨hj, hlt⟩ := mem_evictable_iff.1 hk
  rcases h x hx with hle | ⟨rfl, -⟩
  · rw [he] at hle
    omega
  · exact absurd hj (by decide)

theorem nextSeq_report : (report b s).rpu.nextSeq = s.rpu.nextSeq + 1 ∧ (report b s).rpu.overFull = s.rpu.overFull := by
  by_cases hroom : s.rpu.queue.length < 48
  · rw [report_of_room hroom]
    exact ⟨rfl, rfl⟩
  · cases hv : chooseVictim (evictable b.cls) s.rpu.queue with
    | none =>
      rw [report_of_no_victim (Nat.not_lt.1 hroom) hv]
      exact ⟨rfl, rfl⟩
    | some x =>
      rw [report_of_victim (Nat.not_lt.1 hroom) hv]
      exact ⟨rfl, rfl⟩

end

/-- Settles O16: room, no victim, or the victim the scan finds. -/
theorem offersAppendEvictOrDrop : Obligations.OffersAppendEvictOrDrop := by
  refine ⟨fun b s => ⟨report_same b s, feedbackCounters_report b s, nextSeq_report.1, nextSeq_report.2, fun hroom => ?_,
    fun hfull hlow => ?_⟩, fun b s before after v hfull hq hb hlt hmax hafter => ?_⟩
  · rw [report_of_room hroom]
    refine ⟨rfl, rfl, rfl, fun l => (edgeCounts_countEdge b (· + 1) s.fbm l).trans ?_⟩
    split_ifs <;> rfl
  · rw [report_of_no_victim hfull (chooseVictim_of_none_lower hlow)]
    exact ⟨rfl, rfl, rfl, rfl⟩
  · have hvictim := chooseVictim_append (evictable_descending b.cls) hq (mem_evictable_iff.2 ⟨hb, hlt⟩) hmax hafter
    have hne : b.cls ≠ v.cls := fun he => absurd hlt (by rw [he]; exact Nat.lt_irrefl _)
    have hbody : (Record.mk s.rpu.nextSeq b).cls = b.cls := rfl
    rw [report_of_victim hfull hvictim]
    have haccount : (enqueue { seq := s.rpu.nextSeq, body := b } (evict v (before ++ after) (advanceSeq s))).rpu.accounting =
        (s.rpu.accounting.set v.cls (s.rpu.accounting.get v.cls).evicted).set b.cls
          ((s.rpu.accounting.set v.cls (s.rpu.accounting.get v.cls).evicted).get b.cls).takenIn := rfl
    rw [haccount]
    simp only [PerClass.get_set, if_pos, if_neg hne, if_neg hne.symm]
    refine ⟨rfl, rfl, rfl, rfl, rfl, rfl, fun k hv hb => by rw [if_neg hb, if_neg hv], fun l => ?_⟩
    have hedge : (enqueue { seq := s.rpu.nextSeq, body := b } (evict v (before ++ after) (advanceSeq s))).fbm.edgeCounts =
        ((s.fbm.countEdge v.body (· - 1)).countEdge b (· + 1)).edgeCounts := rfl
    rw [hedge, edgeCounts_countEdge, edgeLeg_of_class hb, if_neg (Option.some_ne_none l).symm, edgeCounts_countEdge]
    split_ifs <;> rfl

end Sys2Proof.Machine
end

section
/-! PROOF. Merging into RETURN frames: which records a merge takes, and the units of the stub and the records (R146,
R153 to R157, R194, R195, Tables 51 and 52). -/

namespace Sys2Proof.Machine

/-! ### The units of a record -/

/-- The KIND byte of a record (Table 51). -/
def RecBody.kindByte : RecBody → Byte
  | .trip _ _ _ _ _ => 17
  | .halt _ _ _ _ => 18
  | .confirmFail _ _ _ _ _ _ => 19
  | .overlong _ _ _ _ => 20
  | .response _ code _ _ => 8#4 ++ code
  | .reject _ _ _ _ => 33
  | .discard _ _ _ _ => 34
  | .sync _ _ _ => 35
  | .glitch _ _ _ _ => 36
  | .release _ _ _ _ => 37
  | .commitDone _ _ _ => 38
  | .cancelled _ _ _ => 39
  | .edge _ _ _ _ _ => 49

/-- The flags of a record, above its LENGTH. -/
def RecBody.flags : RecBody → BitVec 5
  | .trip _ action basis _ _ =>
    0#3 ++ BitVec.ofBool (decide (basis = .entryChanged)) ++ BitVec.ofBool (decide (action = .haltNode))
  | .halt cause _ source _ => source.code ++ cause.code
  | .confirmFail _ _ _ _ _ _ => 0
  | .overlong _ _ _ _ => 0
  | .response _ _ status _ => 0#1 ++ status.code
  | .reject _ _ reason _ => 0#2 ++ reason.code
  | .discard reason _ _ _ => 0#2 ++ reason.code
  | .sync kind _ _ => flagBit3 (decide (kind = .resumed))
  | .glitch _ reason _ _ => flagBit3 (decide (reason = .entryChanged))
  | .release _ basis _ _ => flagBit3 (decide (basis = .entryChanged))
  | .commitDone form active _ => 0#3 ++ active.bit ++ BitVec.ofBool (decide (form = .targeted))
  | .cancelled reason _ _ => 0#3 ++ reason.code
  | .edge _ _ _ _ _ => 0

/-- Byte 3 of a record's first unit. -/
def RecBody.byte3 : RecBody → Byte
  | .trip n _ _ legs _ => chanBits n ++ legs.bits
  | .halt _ haltSet _ _ => 0#1 ++ haltSet.bits
  | .confirmFail l sw source expected suppressed _ =>
    0#1 ++ BitVec.ofBool suppressed ++ BitVec.ofBool expected ++ BitVec.ofBool (decide (source = .disagree)) ++
      switchBit sw ++ legBits l
  | .overlong l sw action _ => 0#3 ++ BitVec.ofBool (decide (action = .trip)) ++ switchBit sw ++ legBits l
  | .response manageSeq _ _ _ => manageSeq
  | .reject _ index _ _ => index
  | .discard _ count _ _ => count
  | .sync _ _ coasted => coasted
  | .glitch n _ forced _ => chanBits n ++ forced.bits
  | .release n _ legs _ => chanBits n ++ legs.bits
  | .commitDone _ _ _ => 0
  | .cancelled _ _ _ => 0
  | .edge l sw direction _ _ => 0#3 ++ BitVec.ofBool direction ++ switchBit sw ++ legBits l

/-- The units of a record after its first. -/
def RecBody.tail : RecBody → List Quad
  | .trip _ _ _ _ time => [time]
  | .halt _ _ _ time => [time]
  | .confirmFail _ _ _ _ _ time => [time]
  | .overlong _ _ _ time => [time]
  | .response _ _ _ data => data
  | .reject cycle _ _ address => [cycle ++ address ++ 0#8]
  | .discard _ _ tails firstCycle => [tails ++ firstCycle ++ 0#8]
  | .sync _ cycle _ => [cycle ++ 0#16]
  | .glitch _ _ _ time => [time]
  | .release _ _ _ time => [time]
  | .commitDone _ _ cycle => [cycle ++ 0#16]
  | .cancelled _ target cycle => [target ++ cycle]
  | .edge _ _ _ time delay => [time, delay ++ 0#16]

/-- The first unit of a record. -/
def Record.firstUnit (r : Record) : Quad := quadOf r.body.kindByte (flagByte r.body.flags r.body.length) r.seq r.body.byte3

theorem encodeRecord_eq (r : Record) : encodeRecord r = r.firstUnit :: r.body.tail := by
  obtain ⟨seq, body⟩ := r
  cases body <;> rfl

theorem length_tail (b : RecBody) : b.tail.length + 1 = b.length := by
  cases b with
  | response manageSeq code status data => exact Nat.add_comm _ _
  | _ => rfl

theorem length_encodeRecord (r : Record) : (encodeRecord r).length = r.body.length := by
  rw [encodeRecord_eq, List.length_cons, length_tail]

/-- The bytes of a unit made of four. -/
theorem quadOf_fields (b0 b1 b2 b3 : Byte) :
    (quadOf b0 b1 b2 b3).extractLsb' 24 8 = b0 ∧
      (∀ k len, k + len ≤ 8 → (quadOf b0 b1 b2 b3).extractLsb' (16 + k) len = b1.extractLsb' k len) ∧
      (quadOf b0 b1 b2 b3).extractLsb' 8 8 = b2 ∧ (quadOf b0 b1 b2 b3).extractLsb' 0 8 = b3 := by
  unfold quadOf
  refine ⟨?_, fun k len hk => ?_, ?_, ?_⟩
  · simp (disch := decide) only [BitVec.extractLsb'_append_eq_of_le, Nat.reduceSub, BitVec.extractLsb'_eq_self]
  · rw [BitVec.extractLsb'_append_eq_of_le (by omega), BitVec.extractLsb'_append_eq_of_le (by omega),
      BitVec.extractLsb'_append_eq_of_add_le (by omega)]
    congr 1
    omega
  · simp (disch := decide) only [BitVec.extractLsb'_append_eq_of_le, BitVec.extractLsb'_append_eq_of_add_le,
      Nat.reduceSub, BitVec.extractLsb'_eq_self]
  · exact BitVec.extractLsb'_append_eq_right

/-- The class R194 gives a KIND byte. -/
theorem class_of_kindByte (b : RecBody) :
    (b.cls = .f ↔ 17 ≤ b.kindByte.toNat ∧ b.kindByte.toNat ≤ 20) ∧ (b.cls = .m ↔ 128 ≤ b.kindByte.toNat) ∧
      (b.cls = .e ↔ 33 ≤ b.kindByte.toNat ∧ b.kindByte.toNat ≤ 39) ∧ (b.cls = .c ↔ b.kindByte = 49#8) := by
  cases b with
  | response manageSeq code status data =>
    have hkind : 128 ≤ (8#4 ++ code).toNat := by
      revert code
      decide
    have hne : 8#4 ++ code ≠ 49#8 := by
      revert code
      decide
    simp only [RecBody.cls, RecBody.kindByte, hkind, hne]
    refine ⟨?_, ?_, ?_, ?_⟩ <;> simp <;> omega
  | _ =>
    simp only [RecBody.cls, RecBody.kindByte]
    decide

theorem legSet_bits (v : LegSet) (l : LegId) : v.bits.getLsbD (legIndex l) = v.get l := by
  cases l <;> simp only [LegSet.bits, legIndex, BitVec.getLsbD_append, PerLeg.get, BitVec.getLsbD_ofBool] <;> rfl

theorem haltSet_bits (h : HaltSet) : h.bits.getLsbD 0 = h.linkLoss ∧ h.bits.getLsbD 1 = h.topology ∧
    h.bits.getLsbD 2 = h.confirm ∧ ∀ n, h.bits.getLsbD (3 + chanIndex n) = h.fault.get n := by
  refine ⟨?_, ?_, ?_, fun n => ?_⟩
  · simp only [HaltSet.bits, BitVec.getLsbD_append]; simp
  · simp only [HaltSet.bits, BitVec.getLsbD_append]; simp
  · simp only [HaltSet.bits, BitVec.getLsbD_append]; simp
  · cases n <;> simp only [HaltSet.bits, chanIndex, BitVec.getLsbD_append, PerChan.get, BitVec.getLsbD_ofBool] <;> rfl

/-! ### The stub -/

/-- The fields of the stub (Table 51). -/
theorem stub_fields {a : Byte} {n : NodeState} {v : LegSet} {depth : Nat} {overflow pending : Bool} (ha : a.toNat ≤ 16) :
    (encodeStub a n v depth overflow pending).extractLsb' 24 8 = 1#8 ∧
      ((encodeStub a n v depth overflow pending).extractLsb' 16 5).toNat = a.toNat ∧
      (encodeStub a n v depth overflow pending).extractLsb' 21 2 = n.code ∧
      (encodeStub a n v depth overflow pending).getLsbD 23 = overflow ∧
      (∀ l, (encodeStub a n v depth overflow pending).getLsbD (8 + legIndex l) = v.get l) ∧
      (encodeStub a n v depth overflow pending).getLsbD 14 = pending ∧
      (encodeStub a n v depth overflow pending).getLsbD 15 = false ∧
      (encodeStub a n v depth overflow pending).extractLsb' 0 8 = BitVec.ofNat 8 depth := by
  have hbit (w : Nat) (x : BitVec w) (j k : Nat) (hk : k < 8) : x.getLsbD (j + k) = (x.extractLsb' j 8).getLsbD k := by
    rw [BitVec.getLsbD_extractLsb', decide_eq_true hk, Bool.true_and]
  obtain ⟨hkind, hfirst, hsecond, hdepth⟩ := quadOf_fields 1 (BitVec.ofBool overflow ++ n.code ++ a.setWidth 5)
    (0#1 ++ BitVec.ofBool pending ++ v.bits) (BitVec.ofNat 8 depth)
  have hone : (encodeStub a n v depth overflow pending).extractLsb' 16 8 = BitVec.ofBool overflow ++ n.code ++ a.setWidth 5 :=
    (hfirst 0 8 (by decide)).trans BitVec.extractLsb'_eq_self
  have htwo : (encodeStub a n v depth overflow pending).extractLsb' 8 8 = 0#1 ++ BitVec.ofBool pending ++ v.bits := hsecond
  refine ⟨hkind, ?_, ?_, ?_, fun l => ?_, ?_, ?_, hdepth⟩
  · refine (congrArg BitVec.toNat ((hfirst 0 5 (by decide)).trans BitVec.extractLsb'_append_eq_right)).trans ?_
    rw [BitVec.toNat_setWidth]
    omega
  · refine (hfirst 5 2 (by decide)).trans ?_
    rw [BitVec.extractLsb'_append_eq_of_le (by decide)]
    exact BitVec.extractLsb'_append_eq_right
  · rw [hbit _ _ 16 7 (by decide), hone]
    simp only [BitVec.getLsbD_append]
    simp
  · have hl : legIndex l < 6 := by cases l <;> decide
    rw [hbit _ _ 8 (legIndex l) (by omega), htwo, BitVec.getLsbD_append, if_pos hl, legSet_bits]
  · rw [hbit _ _ 8 6 (by decide), htwo]
    simp only [BitVec.getLsbD_append]
    simp
  · rw [hbit _ _ 8 7 (by decide), htwo]
    simp only [BitVec.getLsbD_append]
    simp

/-! ### The records a merge takes -/

/-- `sent` is what a merge takes from `s`, in units `units`, with `used` units of `limit` filled before. -/
structure Collected (limit used : Nat) (s t : State) (units : List Quad) (sent : List Record) : Prop where
  run : RemovalRun s.rpu.queue sent t.rpu.queue
  units_eq : units = sent.flatMap encodeRecord
  fits : used + units.length ≤ limit
  full : ∀ r rest, removalHead t.rpu.queue = some (r, rest) → limit < used + units.length + r.body.length
  overflow : t.rpu.faultOverflow = s.rpu.faultOverflow
  counters : t.fbm.counters = s.fbm.counters
  accounts : ∀ k, (t.rpu.accounting.get k).sent = (s.rpu.accounting.get k).sent + BitVec.ofNat 32 (countClass k sent)
  edges : ∀ l, t.fbm.edgeCounts.get l = s.fbm.edgeCounts.get l - countEdges l sent

/-- A merge that takes nothing. -/
theorem Collected.nil {limit used : Nat} {s : State} (hu : used ≤ limit)
    (hf : ∀ r rest, removalHead s.rpu.queue = some (r, rest) → limit < used + r.body.length) :
    Collected limit used s s [] [] :=
  ⟨rfl, rfl, hu, hf, rfl, rfl, fun _ => (BitVec.add_zero _).symm, fun _ => rfl⟩

/-- A merge that takes one record and then others. -/
theorem Collected.cons {limit used : Nat} {s t : State} {units : List Quad} {sent : List Record} {r : Record}
    {rest : List Record} (hr : removalHead s.rpu.queue = some (r, rest))
    (h : Collected limit (used + r.body.length) (sendRecord r rest s) t units sent) :
    Collected limit used s t (encodeRecord r ++ units) (r :: sent) := by
  have hlen : used + (encodeRecord r ++ units).length = used + r.body.length + units.length := by
    rw [List.length_append, length_encodeRecord, Nat.add_assoc]
  refine ⟨⟨rest, hr, h.run⟩, by rw [h.units_eq]; rfl, hlen ▸ h.fits, hlen ▸ h.full, h.overflow, ?_, fun k => ?_, fun l => ?_⟩
  · exact h.counters.trans (counters_countEdge _ _ _)
  · have hsent : ((sendRecord r rest s).rpu.accounting.get k).sent =
        (s.rpu.accounting.get k).sent + BitVec.ofNat 32 (if r.cls = k then 1 else 0) := by
      show ((s.rpu.accounting.set r.cls (s.rpu.accounting.get r.cls).moved).get k).sent = _
      rw [PerClass.get_set]
      by_cases hk : k = r.cls
      · rw [if_pos hk, if_pos hk.symm, hk]
        rfl
      · rw [if_neg hk, if_neg (Ne.symm hk)]
        exact (BitVec.add_zero _).symm
    rw [h.accounts, hsent, countClass_cons, BitVec.add_assoc, ← BitVec.ofNat_add, Nat.add_comm]
  · have hedge : (sendRecord r rest s).fbm.edgeCounts.get l =
        if r.body.edgeLeg = some l then s.fbm.edgeCounts.get l - 1 else s.fbm.edgeCounts.get l :=
      edgeCounts_countEdge r.body (· - 1) s.fbm l
    rw [h.edges, hedge, countEdges_cons]
    split_ifs <;> omega

/-- What a merge takes, with enough fuel for the queue. -/
theorem collected_collect {limit fuel used : Nat} {s : State} (hfuel : s.rpu.queue.length ≤ fuel) (hu : used ≤ limit) :
    ∃ sent, Collected limit used s (collect limit fuel used s).2 (collect limit fuel used s).1 sent := by
  induction fuel generalizing used s with
  | zero =>
    have hnil : s.rpu.queue = [] := List.length_eq_zero_iff.1 (Nat.le_zero.1 hfuel)
    refine ⟨[], .nil hu fun r rest hr => ?_⟩
    rw [removalHead_eq_none_iff.2 hnil] at hr
    exact absurd hr (Option.some_ne_none _).symm
  | succ fuel ih =>
    rw [collect]
    cases hr : removalHead s.rpu.queue with
    | none => exact ⟨[], .nil hu fun r rest h => absurd (hr.symm.trans h) (Option.some_ne_none _).symm⟩
    | some x =>
      obtain ⟨r, rest⟩ := x
      dsimp only
      by_cases hfit : used + r.body.length ≤ limit
      · rw [if_pos hfit]
        have hlen := (removalHead_perm hr).length_eq
        have hrest : (sendRecord r rest s).rpu.queue.length ≤ fuel := by
          show rest.length ≤ fuel
          rw [List.length_cons] at hlen
          omega
        obtain ⟨sent, hsent⟩ := ih hrest hfit
        exact ⟨r :: sent, hsent.cons hr⟩
      · rw [if_neg hfit]
        refine ⟨[], .nil hu fun r' rest' h => ?_⟩
        obtain ⟨⟩ := hr.symm.trans h
        exact Nat.not_le.1 hfit

/-- Settles O18: the merge by what it collects, the units by their fields. -/
theorem mergesFillFramesToTheReserve : Obligations.MergesFillFramesToTheReserve := by
  refine ⟨fun a f s hlow hhigh hroom => ?_, fun a n v depth overflow pending q ha hq => ?_, fun r => ?_,
    legSet_bits, haltSet_bits⟩
  · obtain ⟨sent, h⟩ := collected_collect (limit := payloadLimit - (a.toNat - 1)) (used := f.payload.length + 1)
      (le_refl s.rpu.queue.length) (by rw [payloadLimit]; omega)
    have same := collect_same (payloadLimit - (a.toNat - 1)) s.rpu.queue.length (f.payload.length + 1) s
    refine ⟨_, _, sent, rfl, rfl, rfl, h.run, ?_, ?_, fun r rest hr => ?_, same, h.counters, h.accounts, h.edges⟩
    · have hstub : stubOf a (collect (payloadLimit - (a.toNat - 1)) s.rpu.queue.length (f.payload.length + 1) s).2 =
          encodeStub a s.ncu.state s.safeLegs
            (collect (payloadLimit - (a.toNat - 1)) s.rpu.queue.length (f.payload.length + 1) s).2.rpu.queue.length
            s.rpu.faultOverflow s.bks.pending.isSome := by
        rw [stubOf, same.ncu, same.bks, h.overflow, State.safeLegs, State.safeLegs]
        simp only [State.leg, same.lge]
      rw [← h.units_eq, ← hstub]
    · have hfits := h.fits
      simpa only [mergeFrame, List.length_append, List.length_cons, payloadLimit, Nat.add_assoc, Nat.add_comm,
        Nat.add_left_comm] using hfits
    · have hfull := h.full r rest hr
      simpa only [mergeFrame, List.length_append, List.length_cons, payloadLimit, Nat.add_assoc, Nat.add_comm,
        Nat.add_left_comm] using hfull
  · subst hq
    obtain ⟨hkind, haddress, hstate, hoverflow, hlegs, hpending, hzero, hdepth⟩ := stub_fields (n := n) (v := v)
      (depth := depth) (overflow := overflow) (pending := pending) ha
    exact ⟨hkind, haddress, fun hn => hstate.trans (by rw [hn]; rfl), fun hn => hstate.trans (by rw [hn]; rfl),
      fun hn => hstate.trans (by rw [hn]; rfl), fun hn => hstate.trans (by rw [hn]; rfl), hoverflow, hlegs, hpending, hzero,
      hdepth⟩
  · obtain ⟨hkind, hfirst, hseq, hthree⟩ := quadOf_fields r.body.kindByte (flagByte r.body.flags r.body.length) r.seq
      r.body.byte3
    obtain ⟨hf, hm, he, hc⟩ := class_of_kindByte r.body
    have hflags : r.firstUnit.extractLsb' 19 5 = r.body.flags :=
      (hfirst 3 5 (by decide)).trans BitVec.extractLsb'_append_eq_left
    have hlength : r.firstUnit.extractLsb' 16 3 = BitVec.ofNat 3 r.body.length :=
      (hfirst 0 3 (by decide)).trans BitVec.extractLsb'_append_eq_right
    have hkind : r.firstUnit.extractLsb' 24 8 = r.body.kindByte := hkind
    have hthree : r.firstUnit.extractLsb' 0 8 = r.body.byte3 := hthree
    refine ⟨r.firstUnit, r.body.tail, encodeRecord_eq r, length_tail _, hlength, hseq, ?_, ?_, ?_, ?_, ?_⟩
    · rw [hkind]
      exact hf
    · rw [hkind]
      exact hm
    · rw [hkind]
      exact he
    · rw [hkind]
      exact hc
    · rw [hkind, hflags, hthree]
      obtain ⟨seq, body⟩ := r
      cases body with
      | halt cause haltSet source time =>
        rcases cause with _ | _ | _ | n
        case fault => cases source <;> cases n <;> rfl
        all_goals cases source <;> rfl
      | confirmFail l sw source expected suppressed time => cases sw <;> rfl
      | overlong l sw action time => cases sw <;> rfl
      | response manageSeq code status data => cases status <;> rfl
      | reject cycle index reason address => cases reason <;> rfl
      | discard reason count tails firstCycle => cases reason <;> rfl
      | commitDone form active cycle => cases active <;> rfl
      | cancelled reason target cycle => cases reason <;> rfl
      | edge l sw direction time delay => cases sw <;> rfl
      | _ => rfl

end Sys2Proof.Machine
end

section
/-! PROOF. ARM and DISARM (R115, R117, R187). -/

namespace Sys2Proof.Machine

/-! ### ARM -/

theorem LegSet.isEmpty_iff (v : LegSet) : v.isEmpty = true ↔ ∀ l, v.get l = false := by
  rw [LegSet.isEmpty, List.all_eq_true]
  exact ⟨fun h l => by simpa using h l (mem_allLegs l), fun h l _ => by rw [h]; rfl⟩

theorem get_safeLegs (s : State) (l : LegId) : s.safeLegs.get l = (s.leg l).cond.isSafe := get_legSetWhere _ l

/-- An armed node before its monitors start. -/
def armed (s : State) : State :=
  (loadInForce (s.setCtu { s.ctu with lock := .none, misses := 0 })).setNode .syncing HaltSet.empty

theorem armNode_eq (s : State) : armNode s = startMonitors (armed s) := rfl

theorem startedMonitor_armed (l : LegId) (sw : Switch) (s : State) :
    startedMonitor l sw (armed s) =
      if (s.legParams l).confirmWindow = 0 ∨ (s.legParams l).mode = .disabled ∨
          ((s.legParams l).mode = .single ∧ sw = .lower) then .idle
      else if s.feedbackOn l sw = s.commanded l sw then .quiet
      else .filtering (s.now + (s.legParams l).disagreeFilter.setWidth 32) := by
  have hmon : monitored l sw (armed s) = true ↔
      ¬((s.legParams l).confirmWindow = 0 ∨ (s.legParams l).mode = .disabled ∨
        ((s.legParams l).mode = .single ∧ sw = .lower)) := by
    rw [monitored_iff]
    have hstate : (armed s).ncu.state.monitors = true := rfl
    have hparams : (armed s).legParams l = s.legParams l := rfl
    rw [hstate, hparams, MonitoredSide]
    cases (s.legParams l).mode <;> cases sw <;> simp
  unfold startedMonitor
  by_cases h : monitored l sw (armed s) = true
  · rw [if_pos h, if_neg (hmon.1 h)]
    rfl
  · rw [if_neg h, if_pos (not_not.1 fun hno => h (hmon.2 hno))]

theorem arm_refused_or_done (h : ManageHead) (s : State) :
    ((∃ l, (s.leg l).cond.isSafe = true) →
      doArm h s = respond h 9 .causePresent [datum (0#2 ++ s.safeLegs.bits) 0 0] s) ∧
      ((∀ l, (s.leg l).cond.isSafe = false) → doArm h s = respond h 9 .done [] (armNode s)) := by
  have hempty : s.safeLegs.isEmpty = true ↔ ∀ l, (s.leg l).cond.isSafe = false := by
    simp only [LegSet.isEmpty_iff, get_safeLegs]
  refine ⟨fun ⟨l, hl⟩ => if_neg fun he => ?_, fun hno => if_pos (hempty.2 hno)⟩
  exact absurd ((hempty.1 he l).symm.trans hl) (by decide)

/-! ### DISARM -/

/-- DISARM's pass for one leg (R47). -/
def disarmLeg (l : LegId) (t : State) : State := suppressClamp l (stopLeg l t)

theorem LegFrame.disarmLeg (l : LegId) (t : State) : LegFrame l t (disarmLeg l t) :=
  (LegReported.stopLeg l t).frame.trans (LegFrame.suppressClamp l _)

theorem suppressClamp_of_not_safe {l : LegId} {s : State} (h : (s.leg l).cond.isSafe = false) : suppressClamp l s = s := by
  unfold suppressClamp
  cases hc : (s.leg l).cond with
  | safe cs p k => simp [hc, LegCond.isSafe] at h
  | _ => rfl

/-- What DISARM makes of a leg. -/
theorem leg_disarmLeg (l : LegId) (s : State) :
    (∀ sd a m d f, (s.leg l).cond = .on sd a m d f → (disarmLeg l s).leg l = Leg.offAt s.now .off) ∧
      (∀ p e r, (s.leg l).cond = .gap p e r → (disarmLeg l s).leg l = { s.leg l with cond := .off }) ∧
      (∀ cs p k, (s.leg l).cond = .safe cs p k → ((disarmLeg l s).leg l).cond = .safe cs .opened k) ∧
      ((s.leg l).cond.inert = true → (s.leg l).cond.isSafe = false → (disarmLeg l s).leg l = s.leg l) := by
  refine ⟨fun sd a m d f hc => ?_, fun p e r hc => ?_, fun cs p k hc => ?_, fun hc hsafe => ?_⟩
  · have hoff := leg_stopLeg_of_on hc
    rw [disarmLeg, suppressClamp_of_not_safe (by rw [hoff]; rfl), hoff]
  · have hoff := leg_stopLeg_of_gap hc
    rw [disarmLeg, suppressClamp_of_not_safe (by rw [hoff]; rfl), hoff]
  · rw [disarmLeg, stopLeg_of_rest (.inr (by rw [hc]; rfl))]
    exact cond_suppressClamp hc
  · rw [disarmLeg, stopLeg_of_rest (.inl hc), suppressClamp_of_not_safe hsafe]

theorem disarmLegs_eq (s : State) : disarmLegs s = forLegs disarmLeg s := rfl

theorem legCounters_disarmLegs (s : State) : (disarmLegs s).lge.counters = s.lge.counters := by
  rw [disarmLegs_eq]
  refine legCounters_forLegs (fun l t => ?_) s
  rw [disarmLeg, legCounters_suppressClamp, (LegReported.stopLeg l t).counters]

/-- What DISARM makes of every leg (R47). -/
theorem leg_disarmLegs (l : LegId) (s : State) :
    (∀ sd a m d f, (s.leg l).cond = .on sd a m d f → (disarmLegs s).leg l = Leg.offAt s.now .off) ∧
      (∀ p e r, (s.leg l).cond = .gap p e r → (disarmLegs s).leg l = { s.leg l with cond := .off }) ∧
      (∀ cs p k, (s.leg l).cond = .safe cs p k → ((disarmLegs s).leg l).cond = .safe cs .opened k) ∧
      ((s.leg l).cond.inert = true → (s.leg l).cond.isSafe = false → (disarmLegs s).leg l = s.leg l) := by
  obtain ⟨t, same, hleg, -, hloop, -⟩ := forLegs_leg (s := s) LegFrame.disarmLeg l
  rw [disarmLegs_eq, hloop, ← hleg, ← same.now]
  exact leg_disarmLeg l t

/-- The records DISARM leaves are those of the discard and of the cancel, in this order. -/
theorem disarmNode_alike (s : State) :
    ReportsAlike (cancelCommit .disarm (discardEntries (fun _ => false) .disarm s)) (disarmNode s) := by
  have legs : ReportsAlike s (disarmed s) :=
    ReportsAlike.trans (t := leaveOperation (s.idleMonitors.setNode .standby HaltSet.empty)) ⟨rfl, rfl⟩
      (.ofLegs (disarmed_same s))
  have discarded := legs.discardEntries (by rw [(disarmed_same s).esu]; rfl) (fun _ => false) .disarm
  have low : ReportsAlike (discardEntries (fun _ => false) .disarm s)
      (strobesLow (discardEntries (fun _ => false) .disarm (disarmed s))) := discarded.trans ⟨rfl, rfl⟩
  rw [disarmNode_eq]
  refine low.cancelCommit ?_ ?_ .disarm
  · simp [strobesLow, (disarmed_same s).bks, leaveOperation, State.setNode, State.idleMonitors]
  · simp [strobesLow, (disarmed_same s).ctu, leaveOperation, State.setNode, State.idleMonitors]

theorem cancelCommit_of_none {r : CancelReason} {s : State} (h : s.bks.pending = none) : cancelCommit r s = s := by
  unfold cancelCommit
  rw [h]

theorem cancelCommit_of_some {r : CancelReason} {s : State} {g : Half} (h : s.bks.pending = some g) :
    cancelCommit r s = report (.cancelled r g s.ctu.cycle) (s.setBks { s.bks with pending := none }) := by
  unfold cancelCommit
  rw [h]

theorem disarmNode_outside (s : State) : SameOutside s (disarmNode s) := by
  have moved : SameOutside s (leaveOperation (s.idleMonitors.setNode .standby HaltSet.empty)) :=
    ⟨rfl, rfl, rfl, rfl, rfl, rfl, rfl, rfl⟩
  rw [disarmNode_eq]
  exact (((moved.trans (disarmed_same s).outside).trans (discardEntries_outside _ _ _)).trans
    (strobesLow_outside _)).trans (cancelCommit_outside _ _)

theorem entryCounters_disarmNode (s : State) :
    (disarmNode s).esu.counters = (discardEntries (fun _ => false) .disarm s).esu.counters := by
  have h : (discardEntries (fun _ => false) .disarm (disarmed s)).esu = (discardEntries (fun _ => false) .disarm s).esu :=
    esu_discardEntries_congr (by rw [(disarmed_same s).esu]; rfl) _ _
  rw [← h]
  simp [disarmNode_eq, strobesLow]

section
variable (s : State)

theorem ncu_disarmNode : (disarmNode s).ncu = { state := .standby, causes := HaltSet.empty } := by
  simp [disarmNode_eq, strobesLow, (disarmed_same s).ncu, leaveOperation, State.setNode]

theorem ctu_disarmNode : (disarmNode s).ctu = { s.ctu with lock := .none } := by
  simp [disarmNode_eq, strobesLow, (disarmed_same s).ctu, leaveOperation, State.setNode, State.idleMonitors]

theorem bks_disarmNode : (disarmNode s).bks = { s.bks with pending := none } := by
  simp [disarmNode_eq, strobesLow, (disarmed_same s).bks, leaveOperation, State.setNode, State.idleMonitors]

theorem pru_disarmNode : (disarmNode s).pru = s.pru := by
  simp [disarmNode_eq, strobesLow, (disarmed_same s).pru, leaveOperation, State.setNode, State.idleMonitors]

theorem lge_disarmNode : (disarmNode s).lge = (disarmed s).lge := by simp [disarmNode_eq, strobesLow]

theorem monitors_disarmNode : (disarmNode s).fbm.monitors = monitorsIdle := by
  rw [← disarmed_monitors s]
  simp [disarmNode_eq, strobesLow]

end

theorem leg_disarmNode (l : LegId) (s : State) :
    (disarmNode s).leg l = (disarmLegs (leaveOperation (s.idleMonitors.setNode .standby HaltSet.empty))).leg l := by
  rw [State.leg, lge_disarmNode]
  rfl

/-- Settles O58: ARM with calm filters, and DISARM block by block. -/
theorem armAndDisarmMoveTheNode : Obligations.ArmAndDisarmMoveTheNode := by
  refine fun h s v hv hc => ⟨fun hfresh hn => ?_, fun hfresh hop => ?_⟩
  · have hexec : exec (.arm h) s = .next (passOn (.manage h .arm) (doArm h v)) := by
      rw [exec_of_fresh (i := .arm h) rfl rfl hfresh (decide_eq_true hn), hv]
      rfl
    obtain ⟨hrefuse, hdone⟩ := arm_refused_or_done h v
    rw [hexec]
    refine ⟨fun hsafe => ?_, fun hno hfilter => ⟨armNode v, ?_, ?_, fun l sw => ?_⟩⟩
    · rw [hrefuse (by rw [hv]; exact hsafe), hv]
      rfl
    · rw [hdone (by rw [hv]; exact hno)]
    all_goals
      have hidle : (armed v).fbm.monitors = monitorsIdle := by
        rw [hv]
        exact hc.monitors_idle (by rw [hn]; rfl)
      obtain ⟨only, hmon⟩ := startMonitors_of_idle hidle (by rw [hv]; exact hfilter)
    · rw [armNode_eq]
      refine only.trans ?_
      rw [hv]
      rfl
    · rw [armNode_eq, hmon, startedMonitor_armed, hv]
      rfl
  · have hnu : s.ncu.state ≠ .unaddressed := by rcases hop with hn | hn <;> rw [hn] <;> decide
    have hexec : exec (.disarm h) s = .next (passOn (.manage h .disarm) (respond h 10 .done [] (disarmNode v))) := by
      rw [exec_of_fresh (i := .disarm h) rfl rfl hfresh (decide_eq_true hop), hv]
      rfl
    refine ⟨disarmNode v, hexec, disarmNode_outside v, ?_, ?_, ?_, fun x => ?_, ?_, ?_, ?_, fun l sw => ?_, fun d hd => ?_,
      fun l => ?_⟩
    · exact ncu_disarmNode v
    · rw [ctu_disarmNode, hv]
      rfl
    · simp [disarmNode_eq, strobesLow]
    · cases x <;> simp [disarmNode_eq, strobesLow, PerStrobe.get]
    · rw [bks_disarmNode, hv]
      rfl
    · rw [pru_disarmNode, hv]
      rfl
    · rw [lge_disarmNode, disarmed, legCounters_disarmLegs, hv]
      rfl
    · exact monitor_of_idle (monitors_disarmNode v) l sw
    · have alike := disarmNode_alike v
      rw [← hd] at alike
      have hpending : d.bks.pending = s.bks.pending := by rw [hd, bks_discardEntries, hv]; rfl
      have hcycle : d.ctu.cycle = s.ctu.cycle := by rw [hd, ctu_discardEntries, hv]; rfl
      refine ⟨by rw [entryCounters_disarmNode, hd], fun hp => ?_, fun g hg => ?_⟩
      · rw [cancelCommit_of_none (hpending.trans hp)] at alike
        exact ⟨alike.rpu, alike.edges⟩
      · rw [cancelCommit_of_some (hpending.trans hg), hcycle] at alike
        have same : ReportsAlike (report (.cancelled .disarm g s.ctu.cycle) d)
            (report (.cancelled .disarm g s.ctu.cycle) (d.setBks { d.bks with pending := none })) := by
          refine ReportsAlike.report ?_ _
          exact ⟨rfl, rfl⟩
        exact ⟨(same.trans alike).rpu, (same.trans alike).edges⟩
    · obtain ⟨hon, hgap, hsafe, hrest⟩ := leg_disarmLegs l (leaveOperation (v.idleMonitors.setNode .standby HaltSet.empty))
      have hleg : (leaveOperation (v.idleMonitors.setNode .standby HaltSet.empty)).leg l = s.leg l := by rw [hv]; rfl
      have hnow : (leaveOperation (v.idleMonitors.setNode .standby HaltSet.empty)).now = s.now := by rw [hv]; rfl
      rw [hleg] at hon hgap hsafe hrest
      rw [hnow] at hon
      rw [leg_disarmNode]
      refine ⟨hon, hgap, hsafe, fun h => hrest ?_ ?_⟩ <;> rcases h with h | ⟨held, h⟩ <;> rw [h] <;> rfl

end Sys2Proof.Machine
end

section
/-! PROOF. CLEAR and RESUME (R106, R107, R122, R187, R188). -/

namespace Sys2Proof.Machine

/-! ### Sets of legs and channels -/

theorem PerChan.ext_get {α : Type} {v w : PerChan α} (h : ∀ n, v.get n = w.get n) : v = w := by
  obtain ⟨a, b, c, d⟩ := v
  obtain ⟨a', b', c', d'⟩ := w
  have h0 := h .c0
  have h1 := h .c1
  have h2 := h .c2
  have h3 := h .c3
  simp only [PerChan.get] at h0 h1 h2 h3
  rw [h0, h1, h2, h3]

theorem get_ofByte (b : Byte) (l : LegId) : (LegSet.ofByte b).get l = b.getLsbD (legIndex l) := by cases l <;> rfl

/-- The bits of a byte that carries a set of legs. -/
theorem legSetByte_bit (v : LegSet) (l : LegId) : (legSetByte v).getLsbD (legIndex l) = v.get l := by
  have hl : legIndex l < 6 := by cases l <;> decide
  rw [legSetByte, BitVec.getLsbD_append, if_pos hl, legSet_bits]

theorem legSetByte_above (v : LegSet) {i : Nat} (hi : 6 ≤ i) : (legSetByte v).getLsbD i = false := by
  rw [legSetByte, BitVec.getLsbD_append, if_neg (by omega), BitVec.getLsbD_zero]

theorem legSetByte_eq_zero_iff (v : LegSet) : legSetByte v = 0 ↔ v.isEmpty = true := by
  rw [LegSet.isEmpty_iff]
  refine ⟨fun h l => ?_, fun h => ?_⟩
  · rw [← legSetByte_bit, h]
    exact BitVec.getLsbD_zero
  · have hv : v = LegSet.ofByte 0 := PerLeg.ext_get fun l => by rw [h, get_ofByte]; exact BitVec.getLsbD_zero.symm
    rw [hv]
    rfl

/-! ### Monitors after a loop over the legs -/

theorem commanded_of_leg {l : LegId} {s t : State} (h : t.leg l = s.leg l) (sw : Switch) :
    t.commanded l sw = s.commanded l sw := by
  rw [State.commanded, State.commanded, h]

theorem monitorsFollow_forLegs {f : LegId → State → State} (h : ∀ l t, LegReported l t (f l t)) (l : LegId) (s : State) :
    MonitorsFollow l s (forLegs f s) := by
  obtain ⟨t, same, hleg, hmon, hloop, hloopMon⟩ := forLegs_leg (s := s) (fun l t => (h l t).frame) l
  intro sw
  have hf := (h l t).follow sw
  rw [commanded_of_leg hleg, hmon, same.legParams, same.feedbackOn, same.now] at hf
  rw [hloopMon, hf, commanded_of_leg hloop]

/-! ### CLEAR -/

theorem LegReported.clearLeg (l : LegId) (t : State) : LegReported l t (clearLeg l t) := .setCauses l _ t

theorem leg_setCauses {l : LegId} {cs : Causes} {s : State} :
    ((s.leg l).cond.isSafe = false → setCauses l cs s = s) ∧
      ∀ held p k, (s.leg l).cond = .safe held p k →
        (cs.isEmpty = false → (setCauses l cs s).leg l = { s.leg l with cond := .safe cs p k }) ∧
          (cs.isEmpty = true →
            (setCauses l cs s).leg l = Leg.offAt s.now (heldOrOff (standingForces l s))) := by
  refine ⟨fun hno => ?_, fun held p k hc => ⟨fun he => ?_, fun he => ?_⟩⟩
  · unfold setCauses
    cases hc : (s.leg l).cond with
    | safe cs p k => simp [hc, LegCond.isSafe] at hno
    | _ => rfl
  · rw [setCauses, hc]
    simp only [he, Bool.false_eq_true, if_false, leg_setLeg_same]
  · rw [setCauses, hc]
    simp only [he, if_true, leg_putLeg_same]

/-- The causes CLEAR leaves are determined channel by channel (R106). -/
theorem clearedCauses_eq {cs left : Causes} {s : State}
    (hfi : ∀ n, left.fi.get n = (cs.fi.get n && !(decide (s.channel n = .idle) && !s.faultAsserted n)))
    (hconfirm : left.confirm = false) (hoverlong : left.overlong = false) (hnode : left.nodeHalt = cs.nodeHalt) :
    clearedCauses cs s = left := by
  obtain ⟨fi, confirm, overlong, nodeHalt⟩ := left
  have hset : (clearedCauses cs s).fi = fi := PerChan.ext_get fun n => by
    rw [clearedCauses, PerChan.get_tabulate]
    exact (hfi n).symm
  rw [← hset]
  simp only at hconfirm hoverlong hnode
  rw [hconfirm, hoverlong, hnode]
  rfl

theorem clearedCauses_congr {s t : State} (h : SameButLegs s t) (cs : Causes) : clearedCauses cs t = clearedCauses cs s := by
  have hquiet (n : ChanId) : channelQuiet n t = channelQuiet n s := by
    rw [channelQuiet, channelQuiet, State.channel, State.channel, h.pru, State.faultAsserted, State.faultAsserted,
      State.protParams, State.protParams, State.activeBank, State.activeBank, h.bks, h.pins]
  unfold clearedCauses
  simp only [hquiet]

theorem clearLegs_eq (v : LegSet) (s : State) :
    clearLegs v s = forLegs (fun l t => if v.get l then clearLeg l t else t) s := rfl

/-- What CLEAR makes of a leg. -/
theorem leg_clearLegs (v : LegSet) (l : LegId) (s : State) :
    ((v.get l = false ∨ (s.leg l).cond.isSafe = false) → (clearLegs v s).leg l = s.leg l) ∧
      ∀ cs p k, v.get l = true → (s.leg l).cond = .safe cs p k →
        ((clearedCauses cs s).isEmpty = false →
          (clearLegs v s).leg l = { s.leg l with cond := .safe (clearedCauses cs s) p k }) ∧
          ((clearedCauses cs s).isEmpty = true →
            (clearLegs v s).leg l = Leg.offAt s.now (heldOrOff (standingForces l s))) := by
  obtain ⟨t, same, hleg, -, hin, hout⟩ := forLegsIn_leg (s := s) (fun l t => (LegReported.clearLeg l t).frame) v l
  rw [clearLegs]
  refine ⟨fun h => ?_, fun cs p k hv hc => ?_⟩
  · by_cases hv : v.get l = true
    · have hno : (t.leg l).cond.isSafe = false := by
        rw [hleg]
        exact h.resolve_left (by rw [hv]; decide)
      rw [hin hv, clearLeg, leg_setCauses.1 hno, hleg]
    · exact hout (Bool.eq_false_iff.2 hv)
  · have hcauses : (t.leg l).cond.causes = cs := by rw [hleg, hc]; rfl
    rw [hin hv, clearLeg, hcauses, clearedCauses_congr same, ← same.now, ← same.standingForces, ← hleg]
    exact leg_setCauses.2 cs p k (by rw [hleg, hc])

section
variable {h : ManageHead} {legs : Byte} {s : State}

theorem doClear_of_bad (hl : 64 ≤ legs.toNat) : doClear h legs s = respond h 11 .badValue [] s :=
  if_neg fun hz => absurd (legSetByte_iff.1 hz) (Nat.not_lt.2 hl)

theorem doClear_of_good (hl : legs.toNat < 64) :
    doClear h legs s =
      respond h 11 (if (safeAmong (LegSet.ofByte legs) (clearLegs (LegSet.ofByte legs) s)).isEmpty then .done
          else .causePresent)
        [datum (legSetByte (leftSafe (LegSet.ofByte legs) s (clearLegs (LegSet.ofByte legs) s)))
          (legSetByte (safeAmong (LegSet.ofByte legs) (clearLegs (LegSet.ofByte legs) s))) 0]
        (clearLegs (LegSet.ofByte legs) s) :=
  if_pos (legSetByte_iff.2 hl)

end

/-! ### RESUME -/

/-- A node that RESUME has moved to STANDBY, before its legs (R122). -/
def resumeBase (s : State) : State := s.idleMonitors.setNode .standby HaltSet.empty

theorem resumeNode_eq (s : State) :
    resumeNode s = forLegs (fun l t => removeCause l .nodeHalt t) (openSafeLegs (resumeBase s)) := rfl

/-- The causes RESUME cannot remove are determined channel by channel (R122). -/
theorem keptCauses_eq {kept : HaltSet} {s : State} (hlink : kept.linkLoss = false) (htop : kept.topology = false)
    (hconfirm : kept.confirm = false)
    (hfault : ∀ n, kept.fault.get n =
      (s.ncu.causes.fault.get n && !(decide (s.channel n = .idle) && !s.faultAsserted n))) : keptCauses s = kept := by
  obtain ⟨linkLoss, topology, confirm, fault⟩ := kept
  have hset : (keptCauses s).fault = fault := PerChan.ext_get fun n => by
    rw [keptCauses, PerChan.get_tabulate]
    exact (hfault n).symm
  rw [← hset]
  simp only at hlink htop hconfirm
  rw [hlink, htop, hconfirm]
  rfl

theorem resumeNode_same (s : State) : SameButLegs (resumeBase s) (resumeNode s) :=
  (SameButLegs.ofForLegs (fun l t => suppressClamp_same l t) _).trans
    (.ofForLegs (fun l t => removeCause_same l .nodeHalt t) _)

theorem monitors_resumeNode (s : State) : (resumeNode s).fbm.monitors = monitorsIdle := by
  rw [resumeNode_eq]
  exact forLegs_keeps (P := fun t => t.fbm.monitors = monitorsIdle)
    (fun l t ht => legWrites_idle.legsKept.removeCause l _ ht) (legWrites_idle.legsKept.openSafeLegs (s := resumeBase s) rfl)

theorem legCounters_resumeNode (s : State) : (resumeNode s).lge.counters = s.lge.counters := by
  rw [resumeNode_eq, legCounters_forLegs (fun l t => (LegReported.removeCause l .nodeHalt t).counters),
    legCounters_openSafeLegs]
  rfl

theorem lastOff_suppressClamp {l : LegId} {s : State} {cs : Causes} {p : SafePhase} {k : Option Switch}
    (hc : (s.leg l).cond = .safe cs p k) :
    ((suppressClamp l s).leg l).lastOff = if p = .clamped then s.now else (s.leg l).lastOff := by
  unfold suppressClamp
  cases p <;> simp [hc, Leg.offAt]

theorem removeCause_of_not_has {l : LegId} {x : LegCause} {s : State} (h : (s.leg l).cond.causes.has x = false) :
    removeCause l x s = s := if_neg (by rw [h]; decide)

theorem Causes.remove_nodeHalt_of_not {cs : Causes} (h : cs.nodeHalt = false) : cs.remove .nodeHalt = cs := by
  rw [Causes.remove, ← h]

/-- What RESUME makes of a leg (R122). -/
theorem leg_resumeNode (l : LegId) (s : State) :
    ((s.leg l).cond.isSafe = false → (resumeNode s).leg l = s.leg l) ∧
      ∀ cs p k, (s.leg l).cond = .safe cs p k →
        (cs.nodeHalt = false ∨ (cs.remove .nodeHalt).isEmpty = false →
          ((resumeNode s).leg l).cond = .safe (cs.remove .nodeHalt) .opened k ∧
            ((resumeNode s).leg l).lastOff = (if p = .clamped then s.now else (s.leg l).lastOff)) ∧
          (cs.nodeHalt = true → (cs.remove .nodeHalt).isEmpty = true →
            (resumeNode s).leg l = Leg.offAt s.now (heldOrOff (standingForces l s))) := by
  obtain ⟨t, opens, htleg, -, hopen, -⟩ := forLegs_leg (s := resumeBase s) LegFrame.suppressClamp l
  obtain ⟨u, removes, huleg, -, hremove, -⟩ := forLegs_leg (s := openSafeLegs (resumeBase s))
    (fun l t => LegFrame.removeCause l .nodeHalt t) l
  have huopen : u.leg l = (suppressClamp l t).leg l := huleg.trans hopen
  have hnow : u.now = s.now := removes.now.trans (SameButLegs.ofForLegs (fun l t => suppressClamp_same l t) _).now
  have htnow : t.now = s.now := opens.now
  have hforces : standingForces l u = standingForces l s :=
    (removes.standingForces l).trans ((SameButLegs.ofForLegs (fun l t => suppressClamp_same l t) _).standingForces l)
  have htl : t.leg l = s.leg l := htleg
  rw [resumeNode_eq, hremove]
  refine ⟨fun hno => ?_, fun cs p k hc => ?_⟩
  · have hsame : u.leg l = s.leg l := by rw [huopen, suppressClamp_of_not_safe (by rw [htl]; exact hno), htl]
    have hnot : (u.leg l).cond.causes.has .nodeHalt = false := by
      rw [hsame]
      cases hc : (s.leg l).cond with
      | safe cs p k => simp [hc, LegCond.isSafe] at hno
      | _ => rfl
    rw [removeCause_of_not_has hnot, hsame]
  · have hcond : (u.leg l).cond = .safe cs .opened k := by rw [huopen, cond_suppressClamp (by rw [htl, hc])]
    have hlast : (u.leg l).lastOff = if p = .clamped then s.now else (s.leg l).lastOff := by
      rw [huopen, lastOff_suppressClamp (by rw [htl, hc]), htnow, htl]
    refine ⟨fun hstay => ?_, fun hhas hempty => ?_⟩
    · by_cases hhas : cs.nodeHalt = true
      · have hleft := (leg_removeCause hcond (x := .nodeHalt) hhas).1 (hstay.resolve_left (by rw [hhas]; decide))
        rw [hleft]
        exact ⟨rfl, hlast⟩
      · have hnot : cs.nodeHalt = false := Bool.eq_false_iff.2 hhas
        rw [removeCause_of_not_has (by rw [hcond]; exact hnot), Causes.remove_nodeHalt_of_not hnot]
        exact ⟨hcond, hlast⟩
    · rw [(leg_removeCause hcond (x := .nodeHalt) hhas).2 hempty, hnow, hforces]

/-- Settles O59: CLEAR leg by leg, RESUME by the causes it keeps. -/
theorem clearAndResumeLiftCauses : Obligations.ClearAndResumeLiftCauses := by
  intro h s v hv
  refine ⟨fun legs hfresh hn => ?_, fun hfresh hn kept hlink htop hconfirm hfault => ?_⟩
  · have hexec : exec (.clear h legs) s = .next (passOn (.manage h (.clear legs)) (doClear h legs v)) := by
      rw [exec_of_fresh (i := .clear h legs) rfl rfl hfresh (decide_eq_true hn), hv]
      rfl
    rw [hexec]
    refine ⟨fun hbad => by rw [doClear_of_bad hbad], fun hgood => ?_⟩
    refine ⟨clearLegs (LegSet.ofByte legs) v, _, _, _, by rw [doClear_of_good hgood], ?_,
      fun i hi => ⟨legSetByte_above _ hi, legSetByte_above _ hi⟩, .ofForLegsIn _ (fun l t => setCauses_same l _ t) v, ?_,
      fun l => ?_, fun l => ?_⟩
    · simp only [legSetByte_eq_zero_iff]
    · rw [clearLegs, legCounters_forLegsIn (fun l t => (LegReported.clearLeg l t).counters), hv]
      rfl
    · have hfollow := monitorsFollow_forLegs (f := fun l t => if (LegSet.ofByte legs).get l then clearLeg l t else t)
        (fun l t => by split; exacts [.clearLeg l t, .refl l t]) l v
      rw [← clearLegs_eq] at hfollow
      subst hv
      exact hfollow
    · obtain ⟨hkeep, hsafe⟩ := leg_clearLegs (LegSet.ofByte legs) l v
      rw [get_ofByte] at hkeep hsafe
      have hleg : v.leg l = s.leg l := by rw [hv]; rfl
      rw [hleg] at hkeep hsafe
      refine ⟨?_, ?_, hkeep, fun cs p k hbit hc left hfi hconfirm hoverlong hnode => ?_⟩
      · rw [legSetByte_bit, safeAmong, get_legSetWhere, get_ofByte]
      · rw [legSetByte_bit, leftSafe, get_legSetWhere, get_ofByte, hleg]
      · have hleft : clearedCauses cs v = left := by
          subst hv
          exact clearedCauses_eq hfi hconfirm hoverlong hnode
        have hforces : standingForces l v = standingForces l s := by rw [hv]; rfl
        have hnow : v.now = s.now := by rw [hv]; rfl
        have := hsafe cs p k hbit hc
        rw [hleft, hforces, hnow] at this
        exact this
  · have hexec : exec (.resume h) s = .next (passOn (.manage h .resume) (doResume h v)) := by
      rw [exec_of_fresh (i := .resume h) rfl rfl hfresh (decide_eq_true hn), hv]
      rfl
    have hkept : keptCauses v = kept := by
      subst hv
      exact keptCauses_eq hlink htop hconfirm hfault
    rw [hexec]
    refine ⟨fun hfull => ?_, fun hempty => ⟨resumeNode v, ?_, ?_, ?_, fun l sw => monitor_of_idle (monitors_resumeNode v) l sw,
      fun l => ?_⟩⟩
    · rw [doResume, hkept, if_neg (by rw [hfull]; decide), hv]
      rfl
    · rw [doResume, hkept, if_pos hempty]
      rfl
    · have base : SameButLegs (v.setNcu { state := .standby, causes := HaltSet.empty }) (resumeBase v) :=
        ⟨rfl, rfl, rfl, rfl, rfl, rfl, rfl, rfl, rfl, rfl, rfl, rfl⟩
      exact base.trans (resumeNode_same v)
    · rw [legCounters_resumeNode, hv]
      rfl
    · have hresume := leg_resumeNode l v
      subst hv
      exact hresume

end Sys2Proof.Machine
end

section
/-! PROOF. FLUSH and RESTART (R20, R48, R66, R71, R88, R109, R124, R162, R189, R190). -/

namespace Sys2Proof.Machine

/-! ### FLUSH -/

theorem discardEntries_of_nil {keep : SchedEntry → Bool} {r : DiscardReason} {s : State} (h : s.esu.schedule = []) :
    discardEntries keep r s = s := by
  unfold discardEntries
  rw [h]
  rfl

/-! ### The blocks at RESTART -/

/-- The node as RESTART leaves its blocks, the pending commit and the inputs apart. -/
def restarted (s : State) : State :=
  { s with
    ctu := { s.ctu with
      lock := .none, misses := 0, tolerance := s.nodeParams.syncTolerance, missLimit := s.nodeParams.missLimit
      counters := TimingCounters.zero }
    esu := Esu.initial
    lge := { legs := PerLeg.tabulate fun _ => Leg.offAt s.now .off, counters := LegCounters.zero }
    fbm := Fbm.initial
    pru := Pru.initial
    rpu := Rpu.initial
    mgu := { s.mgu with snapshot := none }
    ncu := { state := .standby, causes := HaltSet.empty }
    ciu := { s.ciu with counters := LinkCounters.zero } }

theorem lge_restartLegs (s : State) :
    (restartLegs s).lge =
      { legs := PerLeg.tabulate fun _ => Leg.offAt s.now .off, counters := LegCounters.zero } := by
  have hlegs : (restartLegs s).lge.legs = PerLeg.tabulate fun _ => Leg.offAt s.now .off :=
    PerLeg.ext_get fun l => (leg_restartLegs s l).trans (PerLeg.get_tabulate (fun _ => Leg.offAt s.now .off) l).symm
  rw [← hlegs]
  rfl

/-- The blocks but the LGE and the CTU, after the legs of a RESTART. -/
def restartOthers (t : State) : State :=
  ((((t.setEsu Esu.initial).setFbm Fbm.initial).setPru Pru.initial).setRpu Rpu.initial).setMgu
      { t.mgu with snapshot := none } |>.countLink fun _ => LinkCounters.zero

theorem restartOthers_eq (t : State) :
    restartOthers t =
      { t with
        esu := Esu.initial, fbm := Fbm.initial, pru := Pru.initial, rpu := Rpu.initial
        mgu := { t.mgu with snapshot := none }, ciu := { t.ciu with counters := LinkCounters.zero } } := rfl

theorem restartBlocks_of_legs (s : State) : restartBlocks s = restartOthers (restartLegs (restartBase s)) := by
  unfold restartBlocks restartOthers restartBase
  rfl

theorem restartBlocks_eq (s : State) : restartBlocks s = restarted s := by
  have same := restartLegs_same (restartBase s)
  have hlge := lge_restartLegs (restartBase s)
  rw [restartBlocks_of_legs, restartOthers_eq, same.ctu, hlge, same.bks, same.mgu, same.ncu, same.ciu, same.pins, same.pending,
    same.freeIndex]
  rfl

/-! ### Legs at rest and the forces they take (R40) -/

/-- From `s` to `t` only leg records have changed. -/
def LegsOnly (s t : State) : Prop := t = s.setLge { s.lge with legs := t.lge.legs }

theorem LegsOnly.refl (s : State) : LegsOnly s s := rfl

theorem LegsOnly.setLeg {s t : State} (h : LegsOnly s t) (l : LegId) (x : Leg) : LegsOnly s (t.setLeg l x) := by
  unfold LegsOnly at h ⊢
  rw [h]
  rfl

/-- A leg that neither conducts nor waits, turned off or counted as turned off at `now`. -/
def Resting (now : Time) (x : Leg) : Prop := ∃ held, x = Leg.offAt now (heldOrOff held)

theorem heldOrOff_of_set (v : ChanSet) (n : ChanId) : heldOrOff (v.set n true) = .heldOff (v.set n true) := by
  rw [heldOrOff, ChanSet.isEmpty_set_true]
  rfl

theorem heldOrOff_cases (v : ChanSet) : heldOrOff v = .off ∧ v = ChanSet.empty ∨ heldOrOff v = .heldOff v := by
  by_cases h : v.isEmpty = true
  · refine .inl ⟨if_pos h, PerChan.ext_get fun n => ?_⟩
    rw [(ChanSet.isEmpty_iff v).1 h n]
    exact (PerChan.get_tabulate (fun _ => false) n).symm
  · exact .inr (if_neg h)

theorem side_heldOrOff (v : ChanSet) : (heldOrOff v).side = none ∧ (heldOrOff v).isSafe = false := by
  rcases heldOrOff_cases v with ⟨h, -⟩ | h <;> (rw [h]; exact ⟨rfl, rfl⟩)

/-- A force on an enabled leg at rest. -/
theorem forceLeg_of_resting {n : ChanId} {l : LegId} {s : State} {held : ChanSet} (hen : s.legEnabled l = true)
    (h : s.leg l = Leg.offAt s.now (heldOrOff held)) :
    forceLeg n l s = s.setLeg l (Leg.offAt s.now (heldOrOff (held.set n true))) := by
  have hcond : (s.leg l).cond = heldOrOff held := by rw [h]; rfl
  rw [heldOrOff_of_set, forceLeg, if_pos hen, hcond]
  rcases heldOrOff_cases held with ⟨hc, rfl⟩ | hc
  · rw [hc]
    rfl
  · rw [hc]

theorem forceLeg_of_disabled {n : ChanId} {l : LegId} {s : State} (hen : s.legEnabled l = false) : forceLeg n l s = s :=
  forceLeg_of_untouched (.inl hen)

/-- Forces on legs at rest leave every leg at rest and change nothing else. -/
theorem forces_of_resting (n : ChanId) (v : LegSet) {s : State} (h : ∀ l, Resting s.now (s.leg l)) :
    LegsOnly s (forLegsIn v (forceLeg n) s) ∧ ∀ l, Resting s.now ((forLegsIn v (forceLeg n) s).leg l) := by
  refine forLegsIn_keeps (P := fun t => LegsOnly s t ∧ ∀ l, Resting s.now (t.leg l)) (fun l t ⟨only, rest⟩ => ?_)
    ⟨.refl s, h⟩
  have hnow : t.now = s.now := by rw [only]; rfl
  by_cases hen : t.legEnabled l = true
  · obtain ⟨held, hheld⟩ := rest l
    rw [forceLeg_of_resting hen (held := held) (by rw [hheld, hnow])]
    refine ⟨only.setLeg l _, fun k => ?_⟩
    rw [leg_setLeg]
    split
    · exact ⟨_, by rw [hnow]⟩
    · exact rest k
  · rw [forceLeg_of_disabled (Bool.eq_false_iff.2 hen)]
    exact ⟨only, rest⟩

/-- A leg at rest after the forces of one channel. -/
theorem leg_forces (n : ChanId) (v : LegSet) (l : LegId) {s : State} {held : ChanSet}
    (h : s.leg l = Leg.offAt s.now (heldOrOff held)) :
    (forLegsIn v (forceLeg n) s).leg l =
      Leg.offAt s.now (heldOrOff (if v.get l && s.legEnabled l then held.set n true else held)) := by
  obtain ⟨t, same, hleg, -, hin, hout⟩ := forLegsIn_leg (s := s) (fun l => LegFrame.forceLeg n l) v l
  by_cases hv : v.get l = true
  · by_cases hen : s.legEnabled l = true
    · rw [hin hv, forceLeg_of_resting ((same.legEnabled l).trans hen) (held := held) (by rw [hleg, same.now, h]),
        leg_setLeg_same, same.now, hv, hen]
      rfl
    · have hdis : s.legEnabled l = false := Bool.eq_false_iff.2 hen
      rw [hin hv, forceLeg_of_disabled ((same.legEnabled l).trans hdis), hleg, h, hdis, Bool.and_false]
      rfl
  · rw [hout (Bool.eq_false_iff.2 hv), h, Bool.eq_false_iff.2 hv]
    rfl

/-! ### Legs at rest that enter SAFE (R42, R46) -/

/-- How a leg enters SAFE does not depend on what holds it off. -/
theorem safeEntry_of_side_none {p : LegRecord} {now : Time} {cs : Causes} {k : Option Switch} {off : Bool} {x : Leg}
    (h : x.cond.side = none) :
    safeEntry p now cs k off x = safeEntry p now cs k off { cond := .off, lastOff := x.lastOff, rested := x.rested } := by
  obtain ⟨c, lastOff, rested⟩ := x
  cases c with
  | on side a m e d => exact absurd h (Option.some_ne_none side)
  | _ => rfl

/-- A cause makes the same of an enabled leg that does not conduct, whatever holds it off. -/
theorem addCause_setLeg_of_rest {l : LegId} {x : LegCause} {b : Bool} {s : State} {y : Leg}
    (hs : (s.leg l).cond.side = none ∧ (s.leg l).cond.isSafe = false) (hy : y.cond.side = none ∧ y.cond.isSafe = false)
    (hoff : y.lastOff = (s.leg l).lastOff) (hrested : y.rested = (s.leg l).rested) (hen : s.legEnabled l = true) :
    addCause l x b (s.setLeg l y) = addCause l x b s := by
  have silent (z : Leg) (hz : z.cond.side = none ∧ z.cond.isSafe = false) (sw : Switch) : z.cond.drives sw = false := by
    rw [drives_of_not_safe hz.2, hz.1]
    rfl
  have hput (z : Leg) : putLeg l z (s.setLeg l y) = putLeg l z s := by
    have hbefore (sw : Switch) : (s.setLeg l y).commanded l sw = s.commanded l sw := by
      rw [State.commanded, State.commanded, leg_setLeg_same, silent _ hs, silent _ hy]
    have hset : (s.setLeg l y).setLeg l z = s.setLeg l z := by
      rw [State.setLeg, State.setLeg, State.setLeg]
      simp only [State.lge_setLge, State.setLge_setLge]
      cases l <;> rfl
    rw [putLeg, putLeg, hbefore, hbefore, hset]
  have hentry (p : LegRecord) (now : Time) (cs : Causes) (k : Option Switch) (off : Bool) :
      safeEntry p now cs k off y = safeEntry p now cs k off (s.leg l) := by
    rw [safeEntry_of_side_none hy.1, safeEntry_of_side_none hs.1, hoff, hrested]
  rw [addCause_of_not_safe hen hs.2, addCause_of_not_safe (s := s.setLeg l y) hen (by rw [leg_setLeg_same]; exact hy.2),
    leg_setLeg_same, hput]
  show judgeLeg l (putLeg l (safeEntry (s.legParams l) s.now _ _ (clampOff b s) y) s) = _
  rw [hentry]
  rfl

/-- While the monitors are IDLE a judged turn-on changes its leg alone. -/
theorem judgeLeg_legsOnly {l : LegId} {s t : State} (h : LegsOnly s t) (hidle : t.fbm.monitors = monitorsIdle) :
    LegsOnly s (judgeLeg l t) ∧ (judgeLeg l t).fbm.monitors = monitorsIdle := by
  unfold judgeLeg
  dsimp only
  split
  · split
    · rw [putLeg_of_idle hidle]
      exact ⟨h.setLeg l _, hidle⟩
    · exact ⟨h, hidle⟩
  · split
    · rw [putLeg_of_idle hidle]
      exact ⟨h.setLeg l _, hidle⟩
    · exact ⟨h, hidle⟩
  · exact ⟨h, hidle⟩

/-- While the monitors are IDLE a plain cause changes its leg alone. -/
theorem addCause_legsOnly {l : LegId} {x : LegCause} {s t : State} (h : LegsOnly s t)
    (hidle : t.fbm.monitors = monitorsIdle) :
    LegsOnly s (addCause l x false t) ∧ (addCause l x false t).fbm.monitors = monitorsIdle := by
  by_cases hen : t.legEnabled l = true
  · by_cases hsafe : (t.leg l).cond.isSafe = true
    · cases hc : (t.leg l).cond with
      | safe cs p k =>
        rw [addCause_of_safe hen hc, if_neg (by decide)]
        exact ⟨h.setLeg l _, hidle⟩
      | _ => rw [hc] at hsafe; exact absurd hsafe (by simp [LegCond.isSafe])
    · rw [addCause_of_not_safe hen (Bool.eq_false_iff.2 hsafe), putLeg_of_idle hidle]
      exact judgeLeg_legsOnly (h.setLeg l _) hidle
  · rw [addCause_of_disabled (Bool.eq_false_iff.2 hen)]
    exact ⟨h, hidle⟩

theorem haltLegs_legsOnly {s : State} (hidle : s.fbm.monitors = monitorsIdle) : LegsOnly s (haltLegs s) := by
  have h := forLegs_keeps (P := fun t => LegsOnly s t ∧ t.fbm.monitors = monitorsIdle) (f := haltLeg)
    (fun l t ⟨only, ht⟩ => ?_) ⟨.refl s, hidle⟩
  · exact h.1
  · unfold haltLeg
    split
    · exact ⟨only, ht⟩
    · exact addCause_legsOnly only ht

theorem Resting.side {now : Time} {x : Leg} (h : Resting now x) : x.cond.side = none ∧ x.cond.isSafe = false := by
  obtain ⟨held, rfl⟩ := h
  exact side_heldOrOff held

theorem haltLeg_of_not_safe {l : LegId} {s : State} (h : (s.leg l).cond.isSafe = false) :
    haltLeg l s = addCause l .nodeHalt false s := by
  refine if_neg ?_
  cases hc : (s.leg l).cond with
  | safe cs p k => rw [hc] at h; exact absurd h (by simp [LegCond.isSafe])
  | _ => simp [LegCond.causes, Causes.empty, Causes.has]

/-- NODE-HALT makes the same of legs at rest, whatever holds the enabled ones off. -/
theorem haltLegs_of_rest {s : State} {x : PerLeg Leg} (hidle : s.fbm.monitors = monitorsIdle)
    (hs : ∀ l, Resting s.now (s.leg l)) (hx : ∀ l, Resting s.now (x.get l))
    (hdis : ∀ l, s.legEnabled l = false → x.get l = s.leg l) :
    haltLegs (s.setLge { s.lge with legs := x }) = haltLegs s := by
  have hlegs (l : LegId) : (haltLegs (s.setLge { s.lge with legs := x })).leg l = (haltLegs s).leg l := by
    obtain ⟨u, usame, uleg, umon, uloop, -⟩ := forLegs_leg (s := s) (fun l t => (LegReported.haltLeg l t).frame) l
    obtain ⟨w, wsame, wleg, wmon, wloop, -⟩ := forLegs_leg (s := s.setLge { s.lge with legs := x })
      (fun l t => (LegReported.haltLeg l t).frame) l
    have wx : w.leg l = x.get l := wleg
    have ualike : LegAlike l s u := .ofLegs usame uleg umon
    have walike : LegAlike l (s.setLge { s.lge with legs := x }) w := .ofLegs wsame wleg wmon
    have hwsafe : (w.leg l).cond.isSafe = false := by rw [wx]; exact (hx l).side.2
    have husafe : (u.leg l).cond.isSafe = false := by rw [uleg]; exact (hs l).side.2
    rw [haltLegs_eq, haltLegs_eq, uloop, wloop, haltLeg_of_not_safe hwsafe, haltLeg_of_not_safe husafe]
    by_cases hen : s.legEnabled l = true
    · have hwen : w.legEnabled l = true := walike.legEnabled.trans hen
      obtain ⟨hxside, hxsafe⟩ := (hx l).side
      obtain ⟨hsside, hssafe⟩ := (hs l).side
      have hoff : (s.leg l).lastOff = (w.leg l).lastOff := by
        rw [wx]
        obtain ⟨a, ha⟩ := hs l
        obtain ⟨b, hb⟩ := hx l
        rw [ha, hb]
        rfl
      have hrested : (s.leg l).rested = (w.leg l).rested := by
        rw [wx]
        obtain ⟨a, ha⟩ := hs l
        obtain ⟨b, hb⟩ := hx l
        rw [ha, hb]
        rfl
      have swap := addCause_setLeg_of_rest (l := l) (x := .nodeHalt) (b := false) (s := w) (y := s.leg l)
        (by rw [wx]; exact (hx l).side) (hs l).side hoff hrested hwen
      have alike : LegAlike l u (w.setLeg l (s.leg l)) :=
        ⟨by rw [leg_setLeg_same, uleg], fun sw => (walike.monitor sw).trans (ualike.monitor sw).symm,
          walike.now.trans ualike.now.symm, walike.params.trans ualike.params.symm, walike.state.trans ualike.state.symm,
          fun sw => (walike.feedback sw).trans (ualike.feedback sw).symm⟩
      rw [← swap, alike.addCause]
    · have hno : s.legEnabled l = false := Bool.eq_false_iff.2 hen
      rw [addCause_of_disabled (walike.legEnabled.trans hno), addCause_of_disabled (ualike.legEnabled.trans hno), wx, uleg,
        hdis l hno]
  have hall : (haltLegs (s.setLge { s.lge with legs := x })).lge.legs = (haltLegs s).lge.legs := PerLeg.ext_get hlegs
  have hleft := haltLegs_legsOnly (s := s.setLge { s.lge with legs := x }) hidle
  have hright := haltLegs_legsOnly hidle
  unfold LegsOnly at hleft hright
  rw [hleft, hright, hall]
  rfl

end Sys2Proof.Machine
end

section
/-! PROOF. What of the node goes its way without the PRU: the legs, the monitors and the halt orders read and write nothing
of it. -/

namespace Sys2Proof.Machine

/-- The operation neither reads nor writes the PRU. -/
def PruFree (f : State → State) : Prop := ∀ p s, f (s.setPru p) = (f s).setPru p

namespace PruFree

variable {f g : State → State}

theorem self : PruFree id := fun _ _ => rfl

theorem comp (hg : PruFree g) (hf : PruFree f) : PruFree fun s => g (f s) := fun p s => by
  show g (f (s.setPru p)) = _
  rw [hf, hg]

theorem ofIf {c : State → Prop} [∀ s, Decidable (c s)] (hc : ∀ p s, c (s.setPru p) ↔ c s) (hf : PruFree f) (hg : PruFree g) :
    PruFree fun s => if c s then f s else g s := fun p s => by
  show (if c (s.setPru p) then f (s.setPru p) else g (s.setPru p)) = State.setPru p (if c s then f s else g s)
  by_cases h : c s
  · rw [if_pos h, if_pos ((hc p s).2 h), hf]
  · rw [if_neg h, if_neg fun h' => h ((hc p s).1 h'), hg]

theorem ofForLegs {f : LegId → State → State} (h : ∀ l, PruFree (f l)) : PruFree (forLegs f) := fun p s => by
  rw [forLegs_eq, forLegs_eq, h, h, h, h, h, h]

theorem ofForSwitches {f : LegId → Switch → State → State} (h : ∀ l sw, PruFree (f l sw)) : PruFree (forSwitches f) :=
  ofForLegs fun l => (h l .lower).comp (h l .upper)

/-! ### Monitors and legs -/

theorem setMonitor (l : LegId) (sw : Switch) (m : Monitor) : PruFree (State.setMonitor l sw m) := fun _ _ => rfl

theorem fbmCommand (l : LegId) (sw : Switch) (level : Bool) : PruFree (fbmCommand l sw level) := fun p s => by
  have hmon : (s.setPru p).monitor l sw = s.monitor l sw := rfl
  cases hm : s.monitor l sw with
  | idle => simp only [Machine.fbmCommand, hmon, hm]
  | _ =>
    simp only [Machine.fbmCommand, hmon, hm]
    by_cases hw : (s.legParams l).confirmWindow = 0
    · rw [if_pos hw, if_pos (show ((s.setPru p).legParams l).confirmWindow = 0 from hw)]
      rfl
    · rw [if_neg hw, if_neg (show ¬((s.setPru p).legParams l).confirmWindow = 0 from hw)]
      rfl

theorem reportChange (l : LegId) (sw : Switch) (before : Bool) : PruFree (reportChange l sw before) := fun p s => by
  unfold Machine.reportChange
  by_cases h : s.commanded l sw = before
  · rw [if_pos h, if_pos (show (s.setPru p).commanded l sw = before from h)]
  · rw [if_neg h, if_neg (show ¬(s.setPru p).commanded l sw = before from h)]
    exact fbmCommand l sw _ p s

theorem putLeg (l : LegId) (x : Leg) : PruFree (putLeg l x) := fun p s => by
  unfold Machine.putLeg
  show Machine.reportChange l .lower (s.commanded l .lower)
    (Machine.reportChange l .upper (s.commanded l .upper) ((s.setLeg l x).setPru p)) = _
  rw [reportChange, reportChange]

theorem judgeLeg (l : LegId) : PruFree (judgeLeg l) := fun p s => by
  have hleg : (s.setPru p).leg l = s.leg l := rfl
  have hmet (sw : Switch) : confirmMet l sw (s.setPru p) = confirmMet l sw s := rfl
  unfold Machine.judgeLeg
  dsimp only
  rw [hleg]
  split
  · rw [hmet]
    split
    · exact putLeg l _ p s
    · rfl
  · rw [hmet]
    split
    · exact putLeg l _ p s
    · rfl
  · rfl

theorem suppressClamp (l : LegId) : PruFree (suppressClamp l) := fun p s => by
  have hleg : (s.setPru p).leg l = s.leg l := rfl
  unfold Machine.suppressClamp
  rw [hleg]
  split
  · exact putLeg l _ p s
  · rfl
  · rfl

theorem addCause (l : LegId) (x : LegCause) (b : Bool) : PruFree (addCause l x b) := fun p s => by
  have hleg : (s.setPru p).leg l = s.leg l := rfl
  by_cases hen : s.legEnabled l = true
  · by_cases hsafe : (s.leg l).cond.isSafe = true
    · cases hc : (s.leg l).cond with
      | safe cs ph k =>
        rw [addCause_of_safe hen hc, addCause_of_safe (s := s.setPru p) hen hc]
        cases b with
        | false => rfl
        | true =>
          rw [if_pos rfl, if_pos rfl]
          exact suppressClamp l p (s.setLeg l { s.leg l with cond := .safe (cs.add x) ph k })
      | _ => rw [hc] at hsafe; exact absurd hsafe (by simp [LegCond.isSafe])
    · have hno := Bool.eq_false_iff.2 hsafe
      rw [addCause_of_not_safe hen hno, addCause_of_not_safe (s := s.setPru p) hen hno]
      exact ((judgeLeg l).comp (putLeg l _)) p s
  · have hdis := Bool.eq_false_iff.2 hen
    rw [addCause_of_disabled hdis, addCause_of_disabled (s := s.setPru p) hdis]

theorem haltLeg (l : LegId) : PruFree (haltLeg l) := ofIf (fun _ _ => Iff.rfl) self (addCause l _ _)

theorem haltLegs : PruFree haltLegs := ofForLegs haltLeg

/-! ### Records, discards and cancels -/

theorem offerRecord (r : Record) : PruFree (offerRecord r) := fun p s => by
  by_cases hroom : s.rpu.queue.length < queueLimit
  · rw [offerRecord_of_room hroom, offerRecord_of_room (s := s.setPru p) hroom]; rfl
  · cases hv : chooseVictim (evictable r.cls) s.rpu.queue with
    | none => rw [offerRecord_of_no_victim hroom hv, offerRecord_of_no_victim (s := s.setPru p) hroom hv]; rfl
    | some vr => rw [offerRecord_of_victim hroom hv, offerRecord_of_victim (s := s.setPru p) hroom hv]; rfl

theorem report (b : RecBody) : PruFree (report b) := fun p s => offerRecord _ p (advanceSeq s)

theorem discardEntries (keep : SchedEntry → Bool) (r : DiscardReason) : PruFree (discardEntries keep r) := fun p s => by
  have hesu : (s.setPru p).esu = s.esu := rfl
  unfold Machine.discardEntries
  rw [hesu]
  split
  · rfl
  · refine Eq.trans ?_ (report _ p _)
    rfl

theorem cancelCommit (r : CancelReason) : PruFree (cancelCommit r) := fun p s => by
  have hbks : (s.setPru p).bks = s.bks := rfl
  cases hp : s.bks.pending with
  | none => rw [cancelCommit_of_none hp, cancelCommit_of_none (s := s.setPru p) hp]
  | some g =>
    rw [cancelCommit_of_some hp, cancelCommit_of_some (s := s.setPru p) hp]
    exact report _ p (s.setBks { s.bks with pending := none })

/-! ### Halts and failures -/

theorem haltEnter (x : HaltCause) : PruFree (haltEnter x) := fun p s => by
  have hrec : haltRecorded x (s.setPru p) = (haltRecorded x s).setPru p :=
    report (.halt x (HaltSet.empty.add x) s.ncu.state s.now) p (s.setNode .halted (HaltSet.empty.add x))
  rw [haltEnter_eq, haltEnter_eq, hrec, haltLegs, discardEntries]
  exact congrArg leaveOperation (cancelCommit .halt p (strobesLow (Machine.discardEntries _ .halt _)))

theorem haltFurther (x : HaltCause) : PruFree (haltFurther x) := fun p s =>
  (haltLegs.comp (report (.halt x (s.ncu.causes.add x) .halted s.now))) p (s.setNode .halted (s.ncu.causes.add x))

theorem haltByMonitor (x : HaltCause) : PruFree (haltByMonitor x) := fun p s => by
  have hncu : (s.setPru p).ncu = s.ncu := rfl
  unfold Machine.haltByMonitor
  rw [hncu]
  cases s.ncu.state with
  | unaddressed => rfl
  | halted => exact haltFurther x p s
  | _ => exact haltEnter x p s

theorem failSwitch (l : LegId) (sw : Switch) (source : FailSource) (expected suppressed : Bool) :
    PruFree (failSwitch l sw source expected suppressed) := fun p s => by
  have caused := ((addCause l .confirm suppressed).comp (report (.confirmFail l sw source expected suppressed s.now))) p s
  obtain ⟨hleg, hnode⟩ := failSwitch_cases (s := s) (l := l) (sw := sw) source expected suppressed rfl
  obtain ⟨hleg', hnode'⟩ := failSwitch_cases (s := s.setPru p) (l := l) (sw := sw) source expected suppressed rfl
  cases hc : s.nodeParams.confirmEscalation with
  | leg => rw [hleg hc, hleg' hc]; exact caused
  | node => rw [hnode hc, hnode' hc, ← haltByMonitor]; exact congrArg _ caused

theorem disagree (l : LegId) (sw : Switch) : PruFree (disagree l sw) := fun p s =>
  failSwitch l sw .disagree (s.commanded l sw) (!s.commanded l sw) p
    ((s.setMonitor l sw .failed).countFeedback fun k => { k with disagreements := satInc k.disagreements })

theorem captureEdge (l : LegId) (sw : Switch) (d : Bool) (c : Time) : PruFree (captureEdge l sw d c) :=
  ofIf (fun _ _ => Iff.rfl)
    (ofIf (fun _ _ => Iff.rfl) (fun _ _ => rfl) fun p s => report _ p s) self

theorem confirmedState (l : LegId) (sw : Switch) (expected : Bool) : PruFree (confirmedState l sw expected) :=
  fun p s => by
    have hleg : (s.setPru p).leg l = s.leg l := rfl
    have hparams : (s.setPru p).legParams l = s.legParams l := rfl
    unfold Machine.confirmedState
    rw [hleg, hparams]
    split
    · split
      · exact judgeLeg l p s
      · rfl
    · rfl

theorem watchSuccess (l : LegId) (sw : Switch) (expected : Bool) (command : Time) (edge : Bool) :
    PruFree (watchSuccess l sw expected command edge) := fun p s => by
  have confirmed := ((confirmedState l sw expected).comp (setMonitor l sw (afterWatch l .quiet s))) p s
  rw [watchSuccess_eq, watchSuccess_eq]
  show (if edge && decide (s.now ≠ command) then _ else _) = _
  by_cases he : (edge && decide (s.now ≠ command)) = true
  · rw [if_pos he, if_pos he, ← captureEdge]
    exact congrArg _ confirmed
  · rw [if_neg he, if_neg he]
    exact confirmed

theorem observe (l : LegId) (sw : Switch) (edge : Bool) : PruFree (observe l sw edge) := fun p s => by
  have hmon : (s.setPru p).monitor l sw = s.monitor l sw := rfl
  cases hm : s.monitor l sw with
  | idle => simp only [Machine.observe, hmon, hm]
  | quiet =>
    simp only [Machine.observe, hmon, hm]
    exact ofIf (c := fun s => s.feedbackOn l sw = s.commanded l sw) (fun _ _ => Iff.rfl) self
      (ofIf (c := fun s => (s.legParams l).disagreeFilter = 0) (fun _ _ => Iff.rfl) (disagree l sw) fun _ _ => rfl) p s
  | watching e c d =>
    simp only [Machine.observe, hmon, hm]
    exact ofIf (c := fun s => s.feedbackOn l sw = e) (fun _ _ => Iff.rfl) (watchSuccess l sw e c edge) self p s
  | filtering d =>
    simp only [Machine.observe, hmon, hm]
    exact ofIf (c := fun s => s.feedbackOn l sw = s.commanded l sw) (fun _ _ => Iff.rfl) (setMonitor l sw .quiet) self p s
  | failed =>
    simp only [Machine.observe, hmon, hm]
    exact ofIf (c := fun s => s.feedbackOn l sw = s.commanded l sw) (fun _ _ => Iff.rfl) (setMonitor l sw .quiet) self p s

theorem startMonitors : PruFree startMonitors :=
  (ofForSwitches fun l sw => observe l sw false).comp
    (ofForSwitches fun l sw => ofIf (fun _ _ => Iff.rfl) (setMonitor l sw .quiet) self)

theorem haltOrder (x : HaltCause) : PruFree (haltOrder x) := fun p s => by
  have hncu : (s.setPru p).ncu = s.ncu := rfl
  unfold Machine.haltOrder
  rw [hncu]
  cases s.ncu.state with
  | unaddressed => rfl
  | standby => exact (startMonitors.comp (haltEnter x)) p s
  | halted => exact haltFurther x p s
  | _ => exact haltEnter x p s

end PruFree

end Sys2Proof.Machine
end

section
/-! PROOF. RESTART and the fault inputs it reads afresh (R20, R48, R71, R88, R90, R93, R96, R109, R124, R190). -/

namespace Sys2Proof.Machine

/-! ### The inputs read afresh (R109) -/

/-- One pass over the inputs, with the readings given. -/
def readSeen (seen : ChanId → Bool) (n : ChanId) (t : State) : State := if seen n = true then takeAssertion n t else t

theorem faultAsserted_congr {s t : State} (hpins : t.pins = s.pins) (hbank : t.activeBank = s.activeBank) (n : ChanId) :
    t.faultAsserted n = s.faultAsserted n := by
  rw [State.faultAsserted, State.faultAsserted, State.protParams, State.protParams, hpins, hbank]

/-- No assertion taken changes the reading of an input, so the readings are those of the start. -/
theorem forChans_readInput {s z : State} (hpins : z.pins = s.pins) (hbank : z.activeBank = s.activeBank) :
    forChans readInput z = forChans (readSeen s.faultAsserted) z := by
  have step (n : ChanId) (t : State) (h : t.pins = s.pins ∧ t.activeBank = s.activeBank) :
      readInput n t = readSeen s.faultAsserted n t ∧
        (readSeen s.faultAsserted n t).pins = s.pins ∧ (readSeen s.faultAsserted n t).activeBank = s.activeBank := by
    obtain ⟨hp, hb⟩ := h
    refine ⟨by rw [readInput, readSeen, faultAsserted_congr hp hb], ?_⟩
    unfold readSeen
    split
    · exact ⟨(takeAssertion_sets n t).pins.trans hp, (takeAssertion_sets n t).activeBank.trans hb⟩
    · exact ⟨hp, hb⟩
  obtain ⟨h0, k0⟩ := step .c0 z ⟨hpins, hbank⟩
  obtain ⟨h1, k1⟩ := step .c1 _ k0
  obtain ⟨h2, k2⟩ := step .c2 _ k1
  obtain ⟨h3, -⟩ := step .c3 _ k2
  rw [forChans_eq, forChans_eq, h0, h1, h2, h3]

/-- A loop over the channels, followed pass by pass. -/
theorem forChans_steps {I : Nat → State → Prop} {f : ChanId → State → State} {s : State}
    (h : ∀ n t, I (chanIndex n) t → I (chanIndex n + 1) (f n t)) (h0 : I 0 s) : I 4 (forChans f s) := by
  rw [forChans_eq]
  exact h .c3 _ (h .c2 _ (h .c1 _ (h .c0 _ h0)))

theorem forChans_of_one {f : ChanId → State → State} {n : ChanId} {s : State} (h : ∀ k, k ≠ n → ∀ t, f k t = t) :
    forChans f s = f n s := by
  rw [forChans_eq]
  cases n with
  | c0 => rw [h .c3 (by decide), h .c2 (by decide), h .c1 (by decide)]
  | c1 => rw [h .c3 (by decide), h .c2 (by decide), h .c0 (by decide)]
  | c2 => rw [h .c3 (by decide), h .c1 (by decide), h .c0 (by decide)]
  | c3 => rw [h .c2 (by decide), h .c1 (by decide), h .c0 (by decide)]

/-! ### The legs FAST forces (R90, R93) -/

/-- Whether an assertion of channel `n` forces leg `l`. -/
def fastForces (n : ChanId) (l : LegId) (s : State) : Bool := (s.protParams n).fast && (affectedSet n s).get l

theorem fastForces_iff (n : ChanId) (l : LegId) (s : State) : fastForces n l s = true ↔ FastForces n l s := by
  rw [fastForces, FastForces, Bool.and_eq_true, get_affectedSet]
  cases (s.protParams n).action <;> rfl

theorem affectedSet_congr {s t : State} (h : t.activeBank = s.activeBank) (n : ChanId) : affectedSet n t = affectedSet n s := by
  refine PerLeg.ext_get fun l => ?_
  rw [get_affectedSet, get_affectedSet, State.protParams, State.protParams, State.legEnabled, State.legEnabled,
    State.legParams, State.legParams, h]

theorem fastForces_congr {s t : State} (h : t.activeBank = s.activeBank) (n : ChanId) (l : LegId) :
    fastForces n l t = fastForces n l s := by
  rw [fastForces, fastForces, affectedSet_congr h, State.protParams, State.protParams, h]

/-- The legs an assertion of channel `n` forces. -/
def forcedLegs (n : ChanId) (s : State) : LegSet := legSetWhere fun l => fastForces n l s

theorem get_forcedLegs (n : ChanId) (l : LegId) (s : State) : (forcedLegs n s).get l = fastForces n l s :=
  get_legSetWhere _ l

/-- An assertion taken: the channel, the forces, and the trip where QUALIFY is 0. -/
theorem takeAssertion_eq_forces (n : ChanId) (s : State) :
    takeAssertion n s =
      if (s.protParams n).qualify = 0 then
        tripChannel n (forcedLegs n s)
          (forLegsIn (forcedLegs n s) (forceLeg n) (qualifyingState n (forcedLegs n s) s))
      else forLegsIn (forcedLegs n s) (forceLeg n) (qualifyingState n (forcedLegs n s) s) :=
  takeAssertion_eq fun l => get_forcedLegs n l s

/-! ### A node whose blocks have been restarted -/

/-- What RESTART has made of the node `s` when the inputs are read. -/
structure ReadyToRead (s z : State) : Prop where
  channels : ∀ n, z.channel n = .idle
  legs : ∀ l, z.leg l = Leg.offAt s.now .off
  monitors : z.fbm.monitors = monitorsIdle
  ncu : z.ncu = { state := .standby, causes := HaltSet.empty }
  bank : z.activeBank = s.activeBank
  pins : z.pins = s.pins
  now : z.now = s.now

section
variable {s z : State}

theorem readyToRead_restart (h : ManageHead) (s : State) :
    ReadyToRead s (cancelCommit .restart (respond h 14 .done [] (restarted s))) := by
  have hbank : (cancelCommit .restart (respond h 14 .done [] (restarted s))).activeBank = s.activeBank := by
    rw [State.activeBank, bks_cancelCommit, respond_eq, State.bks_setMgu, bks_report]
    rfl
  refine ⟨fun n => ?_, fun l => ?_, ?_, ?_, hbank, ?_, ?_⟩
  · rw [State.channel, pru_cancelCommit, respond_eq, State.pru_setMgu, pru_report]
    exact PerChan.get_tabulate (fun _ => Channel.idle) n
  · rw [State.leg, lge_cancelCommit, respond_eq, State.lge_setMgu, lge_report]
    exact PerLeg.get_tabulate (fun _ => Leg.offAt s.now .off) l
  · rw [monitors_cancelCommit, respond_eq, State.fbm_setMgu, monitors_report]
    rfl
  · rw [ncu_cancelCommit, respond_eq, State.ncu_setMgu, ncu_report]
    rfl
  · rw [pins_cancelCommit, respond_eq, State.pins_setMgu, pins_report]
    rfl
  · rw [State.now, ctu_cancelCommit, respond_eq, State.ctu_setMgu, ctu_report]
    rfl

/-- What the readings make of the channels (R109). -/
theorem channels_readSeen {seen : ChanId → Bool} (ready : ReadyToRead s z) (n : ChanId) :
    (seen n = false → (forChans (readSeen seen) z).channel n = .idle) ∧
      (seen n = true →
        ((s.protParams n).qualify ≠ 0 →
          ∃ forced, (∀ l, forced.get l = true ↔ FastForces n l s) ∧
            (forChans (readSeen seen) z).channel n =
              .qualifying (s.now + (s.protParams n).qualify.setWidth 32) (s.protParams n).fast forced) ∧
          ((s.protParams n).qualify = 0 → (forChans (readSeen seen) z).channel n = .active)) := by
  have forced (t : State) (hb : t.activeBank = s.activeBank) :
      (if (s.protParams n).fast then affectedSet n t else LegSet.empty) = forcedLegs n s := by
    refine PerLeg.ext_get fun l => ?_
    rw [get_forcedLegs, fastForces, affectedSet_congr hb]
    cases (s.protParams n).fast with
    | true => rfl
    | false => exact PerLeg.get_tabulate (fun _ => false) l
  revert forced
  refine forChans_establishes (f := readSeen seen)
    (B := fun n t => t.channel n = .idle ∧ t.activeBank = s.activeBank ∧ t.now = s.now)
    (R := fun n u => (∀ t : State, t.activeBank = s.activeBank →
        (if (s.protParams n).fast then affectedSet n t else LegSet.empty) = forcedLegs n s) →
      (seen n = false → u.channel n = .idle) ∧
        (seen n = true →
          ((s.protParams n).qualify ≠ 0 →
            ∃ forced, (∀ l, forced.get l = true ↔ FastForces n l s) ∧
              u.channel n =
                .qualifying (s.now + (s.protParams n).qualify.setWidth 32) (s.protParams n).fast forced) ∧
            ((s.protParams n).qualify = 0 → u.channel n = .active)))
    (fun n t ⟨hidle, hb, hnow⟩ hforced => ?_) (fun n k t hk ⟨hidle, hb, hnow⟩ => ?_) (fun n k t hk hr hforced => ?_)
    (fun n => ⟨ready.channels n, ready.bank, ready.now⟩) n
  · have hprot : t.protParams n = s.protParams n := by rw [State.protParams, State.protParams, hb]
    have sets := (takeAssertion_sets n t).channel n
    rw [if_pos rfl, hprot, hnow, hforced t hb] at sets
    unfold readSeen
    refine ⟨fun hno => by rw [if_neg (by rw [hno]; decide)]; exact hidle, fun hyes => ?_⟩
    rw [if_pos hyes, sets]
    exact ⟨fun hq => ⟨forcedLegs n s, fun l => by rw [get_forcedLegs]; exact fastForces_iff n l s, if_neg hq⟩,
      fun hq => if_pos hq⟩
  · unfold readSeen
    split
    · have sets := takeAssertion_sets n t
      exact ⟨by rw [sets.channel, if_neg hk]; exact hidle, sets.activeBank.trans hb, (takeAssertion_outside n t).now.trans hnow⟩
    · exact ⟨hidle, hb, hnow⟩
  · have hkeep : (readSeen seen n t).channel k = t.channel k := by
      unfold readSeen
      split
      · rw [(takeAssertion_sets n t).channel, if_neg hk]
      · rfl
    rw [hkeep]
    exact hr hforced

/-! ### Forces only: every asserted channel qualifies -/

/-- The channels below `k` that were read asserted and force the leg. -/
def heldSoFar (seen : ChanId → Bool) (l : LegId) (k : Nat) (s : State) : ChanSet :=
  PerChan.tabulate fun n => decide (chanIndex n < k) && (seen n && fastForces n l s)

theorem chanIndex_injective {j k : ChanId} (h : chanIndex j = chanIndex k) : j = k := by
  cases j <;> cases k <;> first | rfl | exact absurd h (by decide)

theorem get_heldSoFar (seen : ChanId → Bool) (l : LegId) (k : Nat) (s : State) (n : ChanId) :
    (heldSoFar seen l k s).get n = (decide (chanIndex n < k) && (seen n && fastForces n l s)) := PerChan.get_tabulate _ n

theorem heldSoFar_succ (seen : ChanId → Bool) (l : LegId) (n : ChanId) (s : State) :
    heldSoFar seen l (chanIndex n + 1) s =
      if seen n && fastForces n l s then (heldSoFar seen l (chanIndex n) s).set n true else heldSoFar seen l (chanIndex n) s := by
  refine PerChan.ext_get fun j => ?_
  have hother : j ≠ n → (decide (chanIndex j < chanIndex n + 1) = decide (chanIndex j < chanIndex n)) := fun hj => by
    have : chanIndex j ≠ chanIndex n := fun h => hj (chanIndex_injective h)
    rw [decide_eq_decide]
    omega
  by_cases hj : j = n
  · subst hj
    by_cases hf : (seen j && fastForces j l s) = true
    · rw [if_pos hf, PerChan.get_set_same, get_heldSoFar, hf, decide_eq_true (Nat.lt_succ_self _)]
      rfl
    · rw [if_neg hf, get_heldSoFar, get_heldSoFar, Bool.eq_false_iff.2 hf, Bool.and_false, Bool.and_false]
  · split
    · rw [PerChan.get_set, if_neg hj, get_heldSoFar, get_heldSoFar, hother hj]
    · rw [get_heldSoFar, get_heldSoFar, hother hj]

/-- The node when the channels below `k` have been read, none of them tripping. -/
structure ForcedSoFar (seen : ChanId → Bool) (s z : State) (k : Nat) (t : State) : Prop where
  rpu : t.rpu = z.rpu
  ncu : t.ncu = z.ncu
  bank : t.activeBank = s.activeBank
  now : t.now = s.now
  legs : ∀ l, t.leg l = Leg.offAt s.now (heldOrOff (if s.legEnabled l then heldSoFar seen l k s else ChanSet.empty))

theorem legEnabled_congr {s t : State} (h : t.activeBank = s.activeBank) (l : LegId) : t.legEnabled l = s.legEnabled l := by
  rw [State.legEnabled, State.legEnabled, State.legParams, State.legParams, h]

theorem heldOrOff_empty : heldOrOff ChanSet.empty = .off := rfl

theorem forcedSoFar_readSeen {seen : ChanId → Bool} (ready : ReadyToRead s z)
    (hq : ∀ n, seen n = true → (s.protParams n).qualify ≠ 0) :
    ForcedSoFar seen s z 4 (forChans (readSeen seen) z) := by
  refine forChans_steps (I := ForcedSoFar seen s z) (fun n t h => ?_)
    ⟨rfl, rfl, ready.bank, ready.now, fun l => ?_⟩
  · by_cases hs : seen n = true
    · have hprot : t.protParams n = s.protParams n := by rw [State.protParams, State.protParams, h.bank]
      have htake : readSeen seen n t =
          forLegsIn (forcedLegs n t) (forceLeg n) (qualifyingState n (forcedLegs n t) t) := by
        rw [readSeen, if_pos hs, takeAssertion_eq_forces, if_neg (by rw [hprot]; exact hq n hs)]
      have same := forceLegs_same n (forcedLegs n t) (qualifyingState n (forcedLegs n t) t)
      rw [htake]
      refine ⟨same.rpu.trans h.rpu, same.ncu.trans h.ncu, same.activeBank.trans h.bank, same.now.trans h.now, fun l => ?_⟩
      have hleg : (qualifyingState n (forcedLegs n t) t).leg l = t.leg l := rfl
      have hnow : (qualifyingState n (forcedLegs n t) t).now = s.now := h.now
      have hen : (qualifyingState n (forcedLegs n t) t).legEnabled l = s.legEnabled l := legEnabled_congr h.bank l
      rw [leg_forces n (forcedLegs n t) l (hleg.trans ((h.legs l).trans (by rw [hnow]))), hnow, hen, get_forcedLegs,
        fastForces_congr h.bank, heldSoFar_succ, hs, Bool.true_and]
      cases s.legEnabled l <;> cases fastForces n l s <;> rfl
    · have hno : seen n = false := Bool.eq_false_iff.2 hs
      rw [readSeen, if_neg hs]
      refine ⟨h.rpu, h.ncu, h.bank, h.now, fun l => ?_⟩
      rw [h.legs, heldSoFar_succ, hno, Bool.false_and]
      rfl
  · have hnone : heldSoFar seen l 0 s = ChanSet.empty := PerChan.ext_get fun n => by
      rw [get_heldSoFar, decide_eq_false (Nat.not_lt_zero _)]
      exact (PerChan.get_tabulate (fun _ => false) n).symm
    rw [ready.legs, hnone, ite_self, heldOrOff_empty]

/-- The leg that no force reaches is OFF, any other is HELD-OFF by those that do. -/
theorem legs_readSeen {seen : ChanId → Bool} (ready : ReadyToRead s z)
    (hq : ∀ n, seen n = true → (s.protParams n).qualify ≠ 0) (l : LegId) :
    ((s.legEnabled l = false ∨ ∀ n, seen n = true → ¬FastForces n l s) →
      (forChans (readSeen seen) z).leg l = Leg.offAt s.now .off) ∧
      (s.legEnabled l = true → (∃ n, seen n = true ∧ FastForces n l s) →
        ∃ held, (∀ n, held.get n = true ↔ (seen n = true ∧ FastForces n l s)) ∧
          (forChans (readSeen seen) z).leg l = Leg.offAt s.now (.heldOff held)) := by
  have hleg := (forcedSoFar_readSeen ready hq).legs l
  have hget (n : ChanId) : (heldSoFar seen l 4 s).get n = true ↔ (seen n = true ∧ FastForces n l s) := by
    have hlt : chanIndex n < 4 := by cases n <;> decide
    rw [get_heldSoFar, decide_eq_true hlt, Bool.true_and, Bool.and_eq_true, fastForces_iff]
  rw [hleg]
  refine ⟨fun hno => ?_, fun hen ⟨n, hn⟩ => ⟨heldSoFar seen l 4 s, hget, ?_⟩⟩
  · rcases hno with hdis | hnone
    · rw [hdis]
      rfl
    · have hempty : (heldSoFar seen l 4 s).isEmpty = true := (ChanSet.isEmpty_iff _).2 fun n =>
        Bool.eq_false_iff.2 fun hn => hnone n ((hget n).1 hn).1 ((hget n).1 hn).2
      split
      · rw [heldOrOff, if_pos hempty]
      · rfl
  · have hfull : ¬(heldSoFar seen l 4 s).isEmpty = true := fun he =>
      absurd ((ChanSet.isEmpty_iff _).1 he n) (by rw [(hget n).2 hn]; decide)
    rw [hen, if_pos rfl, heldOrOff, if_neg hfull]

end

end Sys2Proof.Machine
end

section
/-! PROOF. RESTART with an input that trips at once, and the statements on FLUSH and RESTART (R96, R97, R109, R189,
R190). -/

namespace Sys2Proof.Machine

section
variable {s z : State} {n : ChanId}

/-- The node with channel `n` QUALIFYING and its forces ordered. -/
def heldState (n : ChanId) (z : State) : State :=
  forLegsIn (forcedLegs n z) (forceLeg n) (qualifyingState n (forcedLegs n z) z)

theorem takeAssertion_of_zero (h : (z.protParams n).qualify = 0) :
    takeAssertion n z = tripChannel n (forcedLegs n z) (heldState n z) := by
  rw [takeAssertion_eq_forces, if_pos h, heldState]

theorem heldState_only (ready : ReadyToRead s z) :
    LegsOnly (qualifyingState n (forcedLegs n z) z) (heldState n z) ∧ ∀ l, Resting z.now ((heldState n z).leg l) :=
  forces_of_resting n _ fun l => ⟨ChanSet.empty, ready.legs l |>.trans (by rw [heldOrOff_empty, ← ready.now]; rfl)⟩

theorem leg_heldState (ready : ReadyToRead s z) (l : LegId) :
    (heldState n z).leg l =
      Leg.offAt s.now
        (heldOrOff (if fastForces n l s && s.legEnabled l then ChanSet.empty.set n true else ChanSet.empty)) := by
  have hleg : (qualifyingState n (forcedLegs n z) z).leg l =
      Leg.offAt (qualifyingState n (forcedLegs n z) z).now (heldOrOff ChanSet.empty) :=
    (ready.legs l).trans (by rw [heldOrOff_empty, ← ready.now]; rfl)
  have hen : (qualifyingState n (forcedLegs n z) z).legEnabled l = s.legEnabled l := legEnabled_congr ready.bank l
  rw [heldState, leg_forces n _ l hleg, hen, get_forcedLegs, fastForces_congr ready.bank]
  exact congrArg (fun now => Leg.offAt now _) ready.now

theorem heldState_rest (ready : ReadyToRead s z) :
    (heldState n z).rpu = z.rpu ∧ (heldState n z).ncu = z.ncu ∧ (heldState n z).fbm = z.fbm ∧
      (heldState n z).activeBank = s.activeBank ∧ (heldState n z).now = s.now := by
  have only := (heldState_only (n := n) ready).1
  unfold LegsOnly at only
  rw [only]
  exact ⟨rfl, rfl, rfl, ready.bank, ready.now⟩

/-- A trip with trip orders at RESTART: the record, and the legs of the entry in SAFE. -/
theorem restart_trips_legs (ready : ReadyToRead s z) (hq : (s.protParams n).qualify = 0)
    (hact : (s.protParams n).action = .tripLegs) :
    (takeAssertion n z).rpu = (report (.trip n .tripLegs .qualified (s.protParams n).legs s.now) z).rpu ∧
      (takeAssertion n z).ncu = z.ncu ∧
      ∀ l,
        ((s.legEnabled l = false ∨ (s.protParams n).legs.get l = false) →
          (takeAssertion n z).leg l = Leg.offAt s.now .off) ∧
        (s.legEnabled l = true → (s.protParams n).legs.get l = true →
          ∃ k, (takeAssertion n z).leg l =
            { cond := .safe (Causes.empty.add (.fi n)) .opened k, lastOff := s.now, rested := false }) := by
  obtain ⟨hrpu, hncu, hfbm, hbank, hnow⟩ := heldState_rest (n := n) ready
  have hzprot : z.protParams n = s.protParams n := by rw [State.protParams, State.protParams, ready.bank]
  have hprot : (heldState n z).protParams n = s.protParams n := by rw [State.protParams, State.protParams, hbank]
  have heffect := tripEffect_of_tripLegs (n := n) (s := heldState n z) .qualified (by rw [hprot]; exact hact)
  rw [hprot, hnow] at heffect
  obtain ⟨trpu, tncu, -⟩ := tripChannel_of_orders (forced := forcedLegs n z) heffect
  have alike : ReportsAlike z (heldState n z) := ⟨hrpu, by rw [hfbm]⟩
  rw [takeAssertion_of_zero (by rw [hzprot]; exact hq)]
  refine ⟨trpu.trans (alike.report _).rpu, tncu.trans hncu, fun l => ?_⟩
  have hen : (heldState n z).legEnabled l = s.legEnabled l := legEnabled_congr hbank l
  have hheld := leg_heldState (n := n) ready l
  have htrip := leg_tripLegs n (s.protParams n).legs l
    (.report l (.trip n .tripLegs .qualified (s.protParams n).legs s.now) (heldState n z))
  have hfast : fastForces n l s = ((s.protParams n).fast && (s.protParams n).legs.get l) := by
    rw [fastForces, get_affectedSet, hact]
  rw [leg_tripChannel, heffect, get_forcedLegs, fastForces_congr ready.bank]
  refine ⟨fun hno => ?_, fun henabled hl => ?_⟩
  · have hoff : (heldState n z).leg l = Leg.offAt s.now .off := by
      rw [hheld]
      rcases hno with hdis | hout
      · rw [hdis, Bool.and_false]
        rfl
      · rw [hfast, hout, Bool.and_false]
        rfl
    have hsame : (tripLegs n (s.protParams n).legs
        (report (.trip n .tripLegs .qualified (s.protParams n).legs s.now) (heldState n z))).leg l =
          Leg.offAt s.now .off := by
      rw [htrip, ← hoff]
      split
      · next hl => rw [addCause_of_disabled (hen.trans (hno.resolve_right (by rw [hl]; decide)))]
      · rfl
    rw [withdrawLeg_of_not_held fun g hc => ?_, ite_self, hsame]
    rw [hsame] at hc
    exact absurd hc (by simp [Leg.offAt])
  · have hside : ((heldState n z).leg l).cond.side = none ∧ ((heldState n z).leg l).cond.isSafe = false := by
      rw [hheld]
      exact side_heldOrOff _
    have hcaused : (addCause l (.fi n) false (heldState n z)).leg l =
        { cond := .safe (Causes.empty.add (.fi n)) .opened (clampSwitch ((heldState n z).legParams l).safeState)
          lastOff := s.now, rested := false } := by
      rw [addCause_opened (hen.trans henabled) hside.2 (.inl (by rw [clampOff, hncu, ready.ncu]; rfl)), leg_putLeg_same,
        stopped_of_off hside.1, hheld]
      rfl
    rw [withdrawLeg_of_safe (by rw [htrip, if_pos hl, hcaused]; rfl), ite_self, htrip, if_pos hl, hcaused]
    exact ⟨_, rfl⟩

/-- A leg in SAFE stays there under what the monitors do. -/
theorem monitorKept_safe (l : LegId) : MonitorKept fun s => (s.leg l).cond.isSafe = true where
  judge k s h := by
    by_cases hk : l = k
    · subst hk
      unfold judgeLeg
      dsimp only
      split
      · next hc => rw [hc] at h; exact absurd h (by simp [LegCond.isSafe])
      · split
        · rw [leg_putLeg_same]
          rfl
        · exact h
      · exact h
    · rw [(LegFrame.judgeLeg k s).legs l hk]
      exact h
  cause k x b s h := by
    by_cases hk : l = k
    · subst hk
      by_cases hen : s.legEnabled l = true
      · exact (cond_addCause hen).1
      · rw [addCause_of_disabled (Bool.eq_false_iff.2 hen)]
        exact h
    · rw [(LegReported.addCause k x b s).frame.legs l hk]
      exact h
  monitor _ _ _ _ _ h := h
  feedback _ _ h := h
  record b s _ h := by rw [(LegAlike.report l b s).leg]; exact h
  capture k sw d c s h := by rw [State.leg, (captureEdge_same k sw d c s).lge]; exact h
  enterHalt x s _ _ h := by
    obtain ⟨hdis, hen⟩ := leg_haltEnter (x := x) (s := s) l
    by_cases he : s.legEnabled l = true
    · exact (hen he).1
    · rw [hdis (Bool.eq_false_iff.2 he)]
      exact h
  furtherHalt x s _ h := by
    have hrec : (report (.halt x (s.ncu.causes.add x) .halted s.now) (s.setNode .halted (s.ncu.causes.add x))).leg l =
        s.leg l := (LegAlike.report l _ _).leg
    obtain ⟨hkeep, hsafe⟩ := leg_haltLegs l
      (report (.halt x (s.ncu.causes.add x) .halted s.now) (s.setNode .halted (s.ncu.causes.add x)))
    rw [hrec] at hkeep
    by_cases he : (report (.halt x (s.ncu.causes.add x) .halted s.now)
        (s.setNode .halted (s.ncu.causes.add x))).legEnabled l = true
    · exact (hsafe he).1
    · have hk := hkeep (.inl (Bool.eq_false_iff.2 he))
      show ((haltLegs (report (.halt x (s.ncu.causes.add x) .halted s.now)
        (s.setNode .halted (s.ncu.causes.add x)))).leg l).cond.isSafe = true
      rw [hk]
      exact h

/-! ### A halt order at RESTART (R97, R119) -/

/-- An offered record and a change of the LGE do not meet. -/
theorem offerRecord_setLge (r : Record) (x : Lge) (s : State) :
    offerRecord r (s.setLge x) = (offerRecord r s).setLge x := by
  by_cases hroom : s.rpu.queue.length < queueLimit
  · rw [offerRecord_of_room hroom, offerRecord_of_room (s := s.setLge x) hroom]; rfl
  · cases hv : chooseVictim (evictable r.cls) s.rpu.queue with
    | none => rw [offerRecord_of_no_victim hroom hv, offerRecord_of_no_victim (s := s.setLge x) hroom hv]; rfl
    | some vr => rw [offerRecord_of_victim hroom hv, offerRecord_of_victim (s := s.setLge x) hroom hv]; rfl

theorem report_setLge (b : RecBody) (x : Lge) (s : State) : report b (s.setLge x) = (report b s).setLge x :=
  offerRecord_setLge _ x (advanceSeq s)

theorem lge_haltRecorded (x : HaltCause) (s : State) : (haltRecorded x s).lge = s.lge := lge_report _ _

theorem haltRecorded_setLge (c : HaltCause) (x : Lge) (s : State) :
    haltRecorded c (s.setLge x) = (haltRecorded c s).setLge x := report_setLge _ x (s.setNode .halted (HaltSet.empty.add c))

/-- Entering HALTED makes the same of legs at rest, whatever holds the enabled ones off. -/
theorem haltEnter_of_rest {c : HaltCause} {s : State} {x : PerLeg Leg} (hidle : s.fbm.monitors = monitorsIdle)
    (hs : ∀ l, Resting s.now (s.leg l)) (hx : ∀ l, Resting s.now (x.get l))
    (hdis : ∀ l, s.legEnabled l = false → x.get l = s.leg l) :
    haltEnter c (s.setLge { s.lge with legs := x }) = haltEnter c s := by
  have hlge := lge_haltRecorded c s
  have hnow : (haltRecorded c s).now = s.now := by rw [State.now, haltRecorded, ctu_report]; rfl
  have hleg (l : LegId) : (haltRecorded c s).leg l = s.leg l := by rw [State.leg, hlge]; rfl
  have hen (l : LegId) : (haltRecorded c s).legEnabled l = s.legEnabled l := by
    refine legEnabled_congr ?_ l
    rw [haltRecorded, activeBank_report]
    rfl
  have same : haltLegs ((haltRecorded c s).setLge { s.lge with legs := x }) = haltLegs (haltRecorded c s) := by
    rw [← hlge]
    refine haltLegs_of_rest ?_ (fun l => ?_) (fun l => ?_) fun l h => ?_
    · rw [haltRecorded, monitors_report]
      exact hidle
    · rw [hnow, hleg]
      exact hs l
    · rw [hnow]
      exact hx l
    · rw [hleg]
      exact hdis l ((hen l).symm.trans h)
  rw [haltEnter_eq, haltEnter_eq, haltRecorded_setLge, same]

/-- The halt order of a channel that trips at RESTART is that of the node without its forces. -/
theorem haltOrder_heldState (ready : ReadyToRead s z) (c : HaltCause) (b : RecBody) :
    haltOrder c (report b (heldState n z)) =
      (haltOrder c (report b z)).setPru (qualifyingState n (forcedLegs n z) z).pru := by
  obtain ⟨only, rest⟩ := heldState_only (n := n) ready
  have hlge : (report b (qualifyingState n (forcedLegs n z) z)).lge = (qualifyingState n (forcedLegs n z) z).lge :=
    lge_report _ _
  have hreport : report b (heldState n z) =
      (report b (qualifyingState n (forcedLegs n z) z)).setLge
        { (report b (qualifyingState n (forcedLegs n z) z)).lge with legs := (heldState n z).lge.legs } := by
    rw [hlge, ← report_setLge]
    exact congrArg (report b) only
  have hnow : (report b (qualifyingState n (forcedLegs n z) z)).now = z.now := by rw [State.now, ctu_report]; rfl
  have hleg (l : LegId) : (report b (qualifyingState n (forcedLegs n z) z)).leg l = Leg.offAt s.now .off := by
    rw [State.leg, hlge]
    exact ready.legs l
  have hen (l : LegId) : (report b (qualifyingState n (forcedLegs n z) z)).legEnabled l = s.legEnabled l :=
    legEnabled_congr (by rw [activeBank_report]; exact ready.bank) l
  have hstandby : (report b (qualifyingState n (forcedLegs n z) z)).ncu.state = .standby := by
    rw [ncu_report]
    exact congrArg Ncu.state ready.ncu
  have hdis (l : LegId) (h : (report b (qualifyingState n (forcedLegs n z) z)).legEnabled l = false) :
      (heldState n z).lge.legs.get l = (report b (qualifyingState n (forcedLegs n z) z)).leg l := by
    have hheld := leg_heldState (n := n) ready l
    rw [(hen l).symm.trans h, Bool.and_false] at hheld
    rw [hleg]
    exact hheld
  have entered : haltEnter c (report b (heldState n z)) =
      haltEnter c (report b (qualifyingState n (forcedLegs n z) z)) := by
    rw [hreport]
    refine haltEnter_of_rest (by rw [monitors_report]; exact ready.monitors) (fun l => ?_) (fun l => ?_) hdis
    · rw [hleg, hnow, ready.now]
      exact ⟨ChanSet.empty, rfl⟩
    · rw [hnow]
      exact rest l
  have hheldStandby : (report b (heldState n z)).ncu.state = .standby := by
    rw [hreport]
    exact hstandby
  have ordered : haltOrder c (report b (heldState n z)) = haltOrder c (report b (qualifyingState n (forcedLegs n z) z)) := by
    rw [haltOrder_of_standby hheldStandby, haltOrder_of_standby hstandby, entered]
  exact ordered.trans (((PruFree.haltOrder c).comp (PruFree.report b)) (qualifyingState n (forcedLegs n z) z).pru z)

/-- A trip with a halt order at RESTART: the halt, the PRU apart. -/
theorem restart_halts (ready : ReadyToRead s z) (hq : (s.protParams n).qualify = 0)
    (hact : (s.protParams n).action = .haltNode) :
    takeAssertion n z =
      (haltOrder (.fault n) (report (.trip n .haltNode .qualified s.enabledLegs s.now) z)).setPru (takeAssertion n z).pru := by
  obtain ⟨-, hncu, -, hbank, hnow⟩ := heldState_rest (n := n) ready
  have hzprot : z.protParams n = s.protParams n := by rw [State.protParams, State.protParams, ready.bank]
  have hprot : (heldState n z).protParams n = s.protParams n := by rw [State.protParams, State.protParams, hbank]
  have hstandby : (heldState n z).ncu.state = .standby := by rw [hncu, ready.ncu]
  have henabled : (heldState n z).enabledLegs = s.enabledLegs := PerLeg.ext_get fun l => by
    rw [State.enabledLegs, State.enabledLegs, get_legSetWhere, get_legSetWhere, legEnabled_congr hbank]
  have heffect := tripEffect_of_addressed (n := n) (s := heldState n z) .qualified (by rw [hprot]; exact hact)
    (by rw [hstandby]; decide)
  rw [henabled, hnow, haltOrder_heldState ready] at heffect
  rw [takeAssertion_of_zero (by rw [hzprot]; exact hq)]
  have hlegs : (tripChannel n (forcedLegs n z) (heldState n z)).lge.legs =
      (haltOrder (.fault n) (report (.trip n .haltNode .qualified s.enabledLegs s.now) z)).lge.legs := by
    refine PerLeg.ext_get fun l => ?_
    have hleg := leg_tripChannel n (forcedLegs n z) (heldState n z) l
    rw [heffect] at hleg
    refine hleg.trans ?_
    split
    · next hf =>
      have hen : (report (.trip n .haltNode .qualified s.enabledLegs s.now) z).legEnabled l = true := by
        rw [get_forcedLegs, fastForces, get_affectedSet, hzprot, hact, Bool.and_eq_true] at hf
        exact (legEnabled_congr (activeBank_report _ z) l).trans hf.2
      have hsafe : ((haltOrder (.fault n) (report (.trip n .haltNode .qualified s.enabledLegs s.now) z)).leg l).cond.isSafe =
          true := by
        rw [haltOrder_of_standby (by rw [ncu_report, ready.ncu])]
        exact (monitorKept_safe l).startMonitors ((leg_haltEnter l).2 hen).1
      have hkeep := withdrawLeg_of_safe (n := n) (s := (haltOrder (.fault n)
        (report (.trip n .haltNode .qualified s.enabledLegs s.now) z)).setPru (qualifyingState n (forcedLegs n z) z).pru) hsafe
      rw [hkeep]
      rfl
    · rfl
  have hrest := tripChannel_eq n (forcedLegs n z) (heldState n z)
  rw [heffect, hlegs] at hrest
  rw [hrest]
  rfl

end

/-! ### The requests -/

theorem doRestart_eq (h : ManageHead) (s : State) :
    doRestart h s =
      forChans (readSeen s.faultAsserted) (cancelCommit .restart (respond h 14 .done [] (restarted s))) := by
  have ready := readyToRead_restart h s
  rw [← forChans_readInput ready.pins ready.bank, doRestart, restartBlocks_eq]

/-- Settles O60: FLUSH by its discard event, RESTART by its blocks and the inputs it reads. -/
theorem flushAndRestartEmptyTheNode : Obligations.FlushAndRestartEmptyTheNode := by
  intro h s v hv hn
  refine ⟨fun hfresh => ?_, fun hfresh w z hw hz hzpending => ?_⟩
  · have hexec : exec (.flush h) s = .next (passOn (.manage h .flush) (doFlush h v)) := by
      rw [exec_of_fresh (i := .flush h) rfl rfl hfresh (decide_eq_true hn), hv]
      rfl
    refine ⟨discardEntries (fun _ => false) .flush v, ?_, rfl, ?_, ?_, ?_, fun hnil => ?_⟩
    · rw [hexec, doFlush, hv]
      rfl
    · rw [schedule_discardEntries, List.filter_false]
    · rw [pulses_discardEntries, hv]
      rfl
    · rw [lge_discardEntries, hv]
      rfl
    · exact discardEntries_of_nil (by rw [hv]; exact hnil)
  · have hexec : exec (.restart h) s = .next (passOn (.manage h .restart) (doRestart h v)) := by
      rw [exec_of_fresh (i := .restart h) rfl rfl hfresh (decide_eq_true hn), hv]
      rfl
    have hwv : w = restarted v := by
      rw [hw, hv]
      rfl
    have hzv : z = cancelCommit .restart (respond h 14 .done [] (restarted v)) := by
      have hbks : (respond h 14 .done [] (restarted v)).bks = s.bks := by
        rw [respond_eq, State.bks_setMgu, bks_report, hv]
        rfl
      have hcycle : (respond h 14 .done [] (restarted v)).ctu.cycle = s.ctu.cycle := by
        rw [respond_eq, State.ctu_setMgu, ctu_report, hv]
        rfl
      rw [hwv] at hz hzpending
      cases hp : s.bks.pending with
      | none => rw [hz hp, cancelCommit_of_none (by rw [hbks, hp])]
      | some g => rw [hzpending g hp, cancelCommit_of_some (by rw [hbks, hp]), hbks, hcycle]
    have hseen (n : ChanId) : v.faultAsserted n = s.faultAsserted n := by
      rw [hv]
      rfl
    have ready : ReadyToRead s z := by
      have hready := readyToRead_restart h v
      rw [← hzv, hv] at hready
      obtain ⟨hchan, hlegs, hmon, hncu, hbank, hpins, hnow⟩ := hready
      exact ⟨hchan, hlegs, hmon, hncu, hbank, hpins, hnow⟩
    have hncu : z.ncu = w.ncu := by rw [ready.ncu, hw]
    have hrun : doRestart h v = forChans (readSeen s.faultAsserted) z := by
      rw [doRestart_eq, ← hzv, funext hseen]
    rw [hexec, hrun]
    refine ⟨fun hnone => ?_, _, rfl, rfl, channels_readSeen ready, fun hq => ?_, fun n hn hothers hq => ?_⟩
    · have hidle : forChans (readSeen s.faultAsserted) z = z :=
        forChans_keeps (P := fun t => t = z) (fun n t ht => by rw [readSeen, if_neg (by rw [hnone]; decide), ht]) rfl
      rw [hidle]
    · have forced := forcedSoFar_readSeen ready hq
      exact ⟨forced.rpu, forced.ncu.trans hncu, legs_readSeen ready hq⟩
    · have hone : forChans (readSeen s.faultAsserted) z = takeAssertion n z := by
        have hskip (k : ChanId) (hk : k ≠ n) (t : State) : readSeen s.faultAsserted k t = t :=
          if_neg (Bool.eq_false_iff.1 (hothers k hk))
        rw [forChans_of_one hskip, readSeen, if_pos hn]
      rw [hone]
      refine ⟨fun hact => ?_, fun hact => restart_halts ready hq hact⟩
      obtain ⟨hrpu, htncu, hlegs⟩ := restart_trips_legs ready hq hact
      exact ⟨hrpu, htncu.trans hncu, hlegs⟩

end Sys2Proof.Machine
end

section
/-! PROOF. What a swap makes of one leg and of one monitor (R86, R140 to R142). -/

namespace Sys2Proof.Machine

/-! ### A leg that a swap re-modes -/

section
variable {old : Bank} {l : LegId} {s : State}

theorem swapLeg_of_same_mode (h : (old.legs.get l).mode = (s.legParams l).mode) : swapLeg old l s = s := by
  unfold swapLeg
  rw [h]
  cases (s.legParams l).mode <;> rfl

theorem swapLeg_of_enabled (hold : (old.legs.get l).mode = .disabled) (hnew : (s.legParams l).mode ≠ .disabled) :
    swapLeg old l s = swapEnableLeg l s := by
  unfold swapLeg
  rw [hold]
  cases hm : (s.legParams l).mode with
  | disabled => exact absurd hm hnew
  | complementary => rfl
  | single => rfl

theorem swapLeg_of_disabled (hold : (old.legs.get l).mode ≠ .disabled) (hnew : (s.legParams l).mode = .disabled) :
    swapLeg old l s = swapDisableLeg l s := by
  unfold swapLeg
  rw [hnew]
  cases hm : (old.legs.get l).mode with
  | disabled => exact absurd hm hold
  | complementary => rfl
  | single => rfl

theorem swapLeg_of_toComplementary (hold : (old.legs.get l).mode = .single)
    (hnew : (s.legParams l).mode = .complementary) : swapLeg old l s = swapToComplementary l s := by
  simp only [swapLeg, hold, hnew]

theorem swapLeg_of_toSingle (hold : (old.legs.get l).mode = .complementary)
    (hnew : (s.legParams l).mode = .single) : swapLeg old l s = swapToSingle l s := by
  simp only [swapLeg, hold, hnew]

/-- A leg that the swap disables: its outputs turn off with a turn-off instant, or none is commanded (R140). -/
theorem leg_swapDisableLeg (l : LegId) (s : State) :
    (swapDisableLeg l s).leg l =
      if s.commanded l .upper = true ∨ s.commanded l .lower = true then Leg.offAt s.now .off
      else { s.leg l with cond := .off } := by
  unfold swapDisableLeg
  by_cases h : (s.commanded l .upper || s.commanded l .lower) = true
  · rw [if_pos h, if_pos (by simpa using h), leg_putLeg_same]
  · rw [if_neg h, if_neg (by simpa using h), leg_setLeg_same]

theorem legCounters_swapDisableLeg (l : LegId) (s : State) : (swapDisableLeg l s).lge.counters = s.lge.counters := by
  unfold swapDisableLeg
  split
  · exact (LegReported.putLeg l _ s).counters
  · rfl

/-! ### From COMPLEMENTARY to SINGLE (R142) -/

/-- A change of the lower output while its monitor is IDLE reaches no monitor. -/
theorem putLeg_of_lower_idle {x : Leg} (hidle : s.monitor l .lower = .idle)
    (hupper : x.cond.drives .upper = s.commanded l .upper) : putLeg l x s = s.setLeg l x := by
  have upper : reportChange l .upper (s.commanded l .upper) (s.setLeg l x) = s.setLeg l x :=
    if_pos (by rw [commanded_setLeg, hupper])
  have lower (b : Bool) : reportChange l .lower b (s.setLeg l x) = s.setLeg l x := by
    have hmon : (s.setLeg l x).monitor l .lower = .idle := hidle
    unfold reportChange fbmCommand
    rw [hmon]
    split <;> rfl
  rw [putLeg, upper, lower]

/-- A clamp of the lower switch opens without a watch while the lower monitor is IDLE. -/
theorem suppressClamp_of_lower_idle {cs : Causes} {p : SafePhase} (hidle : s.monitor l .lower = .idle)
    (hc : (s.leg l).cond = .safe cs p (some .lower)) :
    suppressClamp l s = s.setLeg l ((suppressClamp l s).leg l) := by
  unfold suppressClamp
  cases p with
  | opened =>
    simp only [hc]
    exact (setLeg_of_eq rfl).symm
  | clamped =>
    have hput : putLeg l (Leg.offAt s.now (.safe cs .opened (some .lower))) s =
        s.setLeg l (Leg.offAt s.now (.safe cs .opened (some .lower))) :=
      putLeg_of_lower_idle hidle (by rw [State.commanded, hc]; rfl)
    simp only [hc, hput, leg_setLeg_same]
  | settling e r => simp only [hc, leg_setLeg_same]

/-- The state in which the leg is re-moded: its lower monitor is IDLE (log 19). -/
def lowerIdled (l : LegId) (s : State) : State := s.setMonitor l .lower .idle

/-- What becomes of a leg whose lower switch is no longer its own (R142). -/
def LegCond.usesLower : LegCond → Bool
  | .on side _ _ _ _ => decide (side = .lower)
  | .gap sw _ _ => decide (sw = .lower)
  | .safe _ _ clamp => decide (clamp = some .lower)
  | .off => false
  | .heldOff _ => false

theorem swapToSingle_of_on {a : Time} {m e : Option Time} {d : Option Target}
    (hc : (s.leg l).cond = .on .lower a m e d) :
    swapToSingle l s = (lowerIdled l s).setLeg l (Leg.offAt s.now .off) := by
  have hput : putLeg l (Leg.offAt s.now .off) (lowerIdled l s) = (lowerIdled l s).setLeg l (Leg.offAt s.now .off) :=
    putLeg_of_lower_idle (monitor_setMonitor_same ..) (by
      rw [lowerIdled, commanded_setMonitor, State.commanded, hc]
      rfl)
  unfold swapToSingle
  simp only [leg_setMonitor, hc]
  exact hput

theorem swapToSingle_of_gap {e : Time} {r : Bool} (hc : (s.leg l).cond = .gap .lower e r) :
    swapToSingle l s = (lowerIdled l s).setLeg l { s.leg l with cond := .off } := by
  unfold swapToSingle
  simp only [leg_setMonitor, hc]
  rfl

theorem swapToSingle_of_safe {cs : Causes} {p : SafePhase} (hc : (s.leg l).cond = .safe cs p (some .lower)) :
    swapToSingle l s = suppressClamp l (lowerIdled l s) := by
  unfold swapToSingle
  simp only [leg_setMonitor, hc]
  rfl

theorem swapToSingle_of_kept (hc : (s.leg l).cond.usesLower = false) :
    swapToSingle l s = (lowerIdled l s).setLeg l { s.leg l with cond := (s.leg l).cond.dropDeferred } := by
  unfold swapToSingle
  cases h : (s.leg l).cond with
  | off => simp only [leg_setMonitor, h]; rfl
  | heldOff g => simp only [leg_setMonitor, h]; rfl
  | on side a m e d =>
    cases side with
    | upper => simp only [leg_setMonitor, h]; rfl
    | lower => simp [h, LegCond.usesLower] at hc
  | gap sw e r =>
    cases sw with
    | upper => simp only [leg_setMonitor, h]; rfl
    | lower => simp [h, LegCond.usesLower] at hc
  | safe cs p k =>
    rcases k with _ | _ | _
    · simp only [leg_setMonitor, h]; rfl
    · simp only [leg_setMonitor, h]; rfl
    · simp [h, LegCond.usesLower] at hc

/-- Nothing but the lower monitor and the leg's record changes. -/
theorem swapToSingle_eq (l : LegId) (s : State) :
    swapToSingle l s = (lowerIdled l s).setLeg l ((swapToSingle l s).leg l) := by
  have written {x : Leg} (h : swapToSingle l s = (lowerIdled l s).setLeg l x) :
      swapToSingle l s = (lowerIdled l s).setLeg l ((swapToSingle l s).leg l) := by
    rw [h, leg_setLeg_same]
  by_cases hc : (s.leg l).cond.usesLower = true
  · cases h : (s.leg l).cond with
    | on side a m e d =>
      rw [h, LegCond.usesLower, decide_eq_true_iff] at hc
      subst hc
      exact written (swapToSingle_of_on h)
    | gap sw e r =>
      rw [h, LegCond.usesLower, decide_eq_true_iff] at hc
      subst hc
      exact written (swapToSingle_of_gap h)
    | safe cs p k =>
      rw [h, LegCond.usesLower, decide_eq_true_iff] at hc
      subst hc
      have hopen := suppressClamp_of_lower_idle (s := lowerIdled l s) (l := l) (monitor_setMonitor_same ..) h
      exact written ((swapToSingle_of_safe h).trans hopen)
    | off => simp [h, LegCond.usesLower] at hc
    | heldOff g => simp [h, LegCond.usesLower] at hc
  · exact written (swapToSingle_of_kept (Bool.eq_false_iff.2 hc))

theorem dropDeferred_of_not_on {c : LegCond} (h : c.side = none) : c.dropDeferred = c := by
  cases c with
  | on side a m e d => simp [LegCond.side] at h
  | _ => rfl

/-- A leg that does not use its lower switch and is not ON keeps its record. -/
theorem leg_swapToSingle_of_kept (hc : (s.leg l).cond.usesLower = false) (hoff : (s.leg l).cond.side = none) :
    (swapToSingle l s).leg l = s.leg l := by
  rw [swapToSingle_of_kept hc, leg_setLeg_same, dropDeferred_of_not_on hoff]

end

/-- A swap's effect on one leg, from its modes before and after (R140 to R142). -/
theorem swapLeg_by_modes (old : Bank) (l : LegId) (s t : State) (ht : t = swapLeg old l s) :
    (((old.legs.get l).mode = (s.legParams l).mode) → t = s) ∧
      ((old.legs.get l).mode = .disabled → (s.legParams l).mode ≠ .disabled →
        t = s.setLeg l { s.leg l with lastOff := s.now, rested := false }) ∧
      ((old.legs.get l).mode ≠ .disabled → (s.legParams l).mode = .disabled →
        SameButLegs s t ∧ (∀ k, k ≠ l → t.leg k = s.leg k ∧ ∀ sw, t.monitor k sw = s.monitor k sw) ∧
          t.lge.counters = s.lge.counters ∧
          t.leg l =
            (if s.commanded l .upper = true ∨ s.commanded l .lower = true then
              { cond := .off, lastOff := s.now, rested := false }
            else { s.leg l with cond := .off })) := by
  have frame := LegFrame.swapLeg old l s
  refine ⟨fun h => ht.trans (swapLeg_of_same_mode h), fun hold hnew => ht.trans (swapLeg_of_enabled hold hnew),
    fun hold hnew => ?_⟩
  have hswap : t = swapDisableLeg l s := ht.trans (swapLeg_of_disabled hold hnew)
  refine ⟨ht ▸ frame.blocks, fun k hk => ⟨ht ▸ frame.legs k hk, fun sw => ht ▸ frame.monitors k sw hk⟩, ?_, ?_⟩
  · rw [hswap, legCounters_swapDisableLeg]
  · rw [hswap, leg_swapDisableLeg]
    rfl

theorem swapToComplementary_eq (l : LegId) (s : State) :
    swapToComplementary l s = s.setLeg l { s.leg l with
      cond :=
        match (s.leg l).cond with
        | .on side since minEnd maxEnd _ => .on side since minEnd maxEnd none
        | other => other } := by
  unfold swapToComplementary
  cases (s.leg l).cond <;> rfl

/-- What becomes of a leg re-moded from COMPLEMENTARY to SINGLE (R142). -/
theorem leg_swapToSingle (l : LegId) (s t : State) (ht : t = swapToSingle l s) :
    (∀ a m e f, (s.leg l).cond = .on .lower a m e f →
      t.leg l = { cond := .off, lastOff := s.now, rested := false }) ∧
      (∀ a m e f, (s.leg l).cond = .on .upper a m e f →
        t.leg l = { s.leg l with cond := .on .upper a m e none }) ∧
      (∀ e r, (s.leg l).cond = .gap .lower e r → t.leg l = { s.leg l with cond := .off }) ∧
      (∀ cs p, (s.leg l).cond = .safe cs p (some .lower) →
        (t.leg l).cond = .safe cs .opened (some .lower) ∧
          (t.leg l).lastOff = if p = .clamped then s.now else (s.leg l).lastOff) ∧
      (((s.leg l).cond = .off ∨ (∃ h, (s.leg l).cond = .heldOff h) ∨ (∃ e r, (s.leg l).cond = .gap .upper e r) ∨
          ∃ cs p k, (s.leg l).cond = .safe cs p k ∧ k ≠ some .lower) → t.leg l = s.leg l) := by
  subst ht
  refine ⟨fun a m e f hc => ?_, fun a m e f hc => ?_, fun e r hc => ?_, fun cs p hc => ?_, fun hc => ?_⟩
  · rw [swapToSingle_of_on hc, leg_setLeg_same]
    rfl
  · rw [swapToSingle_of_kept (by rw [hc]; rfl), leg_setLeg_same, hc]
    rfl
  · rw [swapToSingle_of_gap hc, leg_setLeg_same]
  · have hidled : ((lowerIdled l s).leg l).cond = .safe cs p (some .lower) := hc
    rw [swapToSingle_of_safe hc]
    exact ⟨cond_suppressClamp hidled, lastOff_suppressClamp hidled⟩
  · rcases hc with h | ⟨g, h⟩ | ⟨e, r, h⟩ | ⟨cs, p, k, h, hk⟩
    · exact leg_swapToSingle_of_kept (by rw [h]; rfl) (by rw [h]; rfl)
    · exact leg_swapToSingle_of_kept (by rw [h]; rfl) (by rw [h]; rfl)
    · exact leg_swapToSingle_of_kept (by rw [h]; rfl) (by rw [h]; rfl)
    · exact leg_swapToSingle_of_kept (by rw [h]; exact decide_eq_false hk) (by rw [h]; rfl)

/-! ### A monitor brought into line (R86) -/

section
variable {old : Bank} {l : LegId} {sw : Switch} {s : State}

theorem recordMonitors_iff (p : LegRecord) (sw : Switch) :
    recordMonitors p sw = true ↔ MonitoredSide p.mode sw ∧ p.confirmWindow ≠ 0 := by
  rw [recordMonitors, Bool.and_eq_true, decide_eq_true_iff, MonitoredSide]
  cases p.mode <;> simp

theorem alignMonitor_of_unmonitored (h : s.ncu.state.monitors = false) : alignMonitor old l sw s = s := by
  unfold alignMonitor
  rw [h]
  rfl

/-- The switch the mode no longer drives. -/
theorem alignMonitor_of_not_side (h : s.ncu.state.monitors = true) (hside : ¬MonitoredSide (s.legParams l).mode sw) :
    alignMonitor old l sw s = s.setMonitor l sw .idle := by
  unfold alignMonitor
  dsimp only
  rw [h, if_neg (by decide), if_neg fun hrec => hside ((recordMonitors_iff _ sw).1 hrec).1,
    if_neg fun hrec => hside ((recordMonitors_iff { s.legParams l with confirmWindow := 1 } sw).1 hrec).1]

theorem alignMonitor_of_window (h : s.ncu.state.monitors = true) (hside : MonitoredSide (s.legParams l).mode sw)
    (hwindow : (s.legParams l).confirmWindow ≠ 0) :
    alignMonitor old l sw s = if recordMonitors (old.legs.get l) sw then s else s.setMonitor l sw .quiet := by
  unfold alignMonitor
  dsimp only
  rw [h, if_neg (by decide), if_pos ((recordMonitors_iff _ sw).2 ⟨hside, hwindow⟩)]

/-- Without a CONFIRM-WINDOW an open watch stays (log 10, log 22). -/
theorem alignMonitor_of_no_window (h : s.ncu.state.monitors = true) (hside : MonitoredSide (s.legParams l).mode sw)
    (hwindow : (s.legParams l).confirmWindow = 0) :
    alignMonitor old l sw s = if (s.monitor l sw).isWatch then s else s.setMonitor l sw .idle := by
  unfold alignMonitor
  dsimp only
  rw [h, if_neg (by decide), if_neg fun hrec => ((recordMonitors_iff _ sw).1 hrec).2 hwindow,
    if_pos ((recordMonitors_iff { s.legParams l with confirmWindow := 1 } sw).2 ⟨hside, show (1 : BitVec 10) ≠ 0 by decide⟩)]
  cases s.monitor l sw <;> rfl

theorem isWatch_iff (m : Monitor) : m.isWatch = true ↔ ∃ e c d, m = .watching e c d := by
  cases m <;> simp [Monitor.isWatch]

end

/-- A monitor brought into line, by its switch and the CONFIRM-WINDOWs before and after (R86). -/
theorem alignMonitor_by_records (old : Bank) (l : LegId) (sw : Switch) (s : State) (h : s.ncu.state.monitors = true) :
    (¬MonitoredSide (s.legParams l).mode sw → alignMonitor old l sw s = s.setMonitor l sw .idle) ∧
      (MonitoredSide (s.legParams l).mode sw →
        ((s.legParams l).confirmWindow ≠ 0 →
          ((MonitoredSide (old.legs.get l).mode sw ∧ (old.legs.get l).confirmWindow ≠ 0) →
            alignMonitor old l sw s = s) ∧
            (¬(MonitoredSide (old.legs.get l).mode sw ∧ (old.legs.get l).confirmWindow ≠ 0) →
              alignMonitor old l sw s = s.setMonitor l sw .quiet)) ∧
          ((s.legParams l).confirmWindow = 0 →
            ((∃ e c d, s.monitor l sw = .watching e c d) → alignMonitor old l sw s = s) ∧
              ((∀ e c d, s.monitor l sw ≠ .watching e c d) →
                alignMonitor old l sw s = s.setMonitor l sw .idle))) := by
  refine ⟨alignMonitor_of_not_side h, fun hside => ⟨fun hwindow => ?_, fun hwindow => ?_⟩⟩
  · rw [alignMonitor_of_window h hside hwindow, ← recordMonitors_iff]
    exact ⟨fun hold => if_pos hold, fun hold => if_neg hold⟩
  · rw [alignMonitor_of_no_window h hside hwindow]
    exact ⟨fun hwatch => if_pos ((isWatch_iff _).2 hwatch), fun hno => if_neg fun hwatch =>
      let ⟨e, c, d, heq⟩ := (isWatch_iff _).1 hwatch
      hno e c d heq⟩

theorem monitors_iff (n : NodeState) : n.monitors = false ↔ n = .unaddressed ∨ n = .standby := by
  cases n <;> simp [NodeState.monitors]

theorem monitors_of_operating {s : State} (h : Operating s ∨ s.ncu.state = .halted) : s.ncu.state.monitors = true := by
  rcases h with (h | h) | h <;> (rw [h]; rfl)

end Sys2Proof.Machine
end

section
/-! PROOF. What a swap makes of a channel (R103, R104). -/

namespace Sys2Proof.Machine

/-- An order to the legs of a set is given to them in number order. -/
theorem forLegsIn_eq_filter (v : LegSet) (f : LegId → State → State) (s : State) :
    forLegsIn v f s = (allLegs.filter fun l => v.get l).foldl (fun x l => f l x) s := by
  rw [List.foldl_filter]
  rfl

section
variable {n : ChanId} {s : State}

/-! ### A changed entry (R103) -/

theorem swapChangedEntry_of_idle (h : s.channel n = .idle) :
    swapChangedEntry n s = if s.faultAsserted n = true then takeAssertion n s else s := by
  unfold swapChangedEntry
  rw [h]
  rfl

/-- The input is read afresh after the GLITCH; its reading is the one before. -/
theorem swapChangedEntry_of_qualifying {d : Time} {b : Bool} {forced : LegSet} (h : s.channel n = .qualifying d b forced) :
    swapChangedEntry n s =
      if s.faultAsserted n = true then takeAssertion n (glitch n .entryChanged forced s)
      else glitch n .entryChanged forced s := by
  unfold swapChangedEntry
  rw [h, ← (glitch_sets n .entryChanged forced s).faultAsserted n]
  rfl

theorem swapChangedEntry_of_holding {d : Time} (h : s.channel n = .holding d) :
    swapChangedEntry n s =
      if s.faultAsserted n = true then takeAssertion n (releaseChannel n .entryChanged s)
      else releaseChannel n .entryChanged s := by
  unfold swapChangedEntry
  rw [h, ← (releaseChannel_sets n .entryChanged s).faultAsserted n]
  rfl

theorem swapChangedEntry_of_active (h : s.channel n = .active) :
    swapChangedEntry n s =
      if s.faultAsserted n = true then countTrip (tripEffect n .entryChanged s) else s.setChannel n .idle := by
  unfold swapChangedEntry
  rw [h]

/-- The affected set, and the trip orders or the halt order of a trip (R90, R96, R97). -/
theorem tripEffect_by_action (n : ChanId) (b : TripBasis) (s : State) {v : LegSet} {u : State}
    (hv : v = match (s.protParams n).action with
      | .tripLegs => (s.protParams n).legs
      | .haltNode => s.enabledLegs)
    (hu : u = report (.trip n (s.protParams n).action b v s.now) s) :
    (((s.protParams n).action = .tripLegs ∨ s.ncu.state = .unaddressed) →
      tripEffect n b s = (allLegs.filter fun l => v.get l).foldl (fun x l => addCause l (.fi n) false x) u) ∧
      ((s.protParams n).action = .haltNode → s.ncu.state ≠ .unaddressed → tripEffect n b s = haltOrder (.fault n) u) := by
  cases ha : (s.protParams n).action with
  | tripLegs =>
    rw [ha] at hv hu
    refine ⟨fun _ => ?_, fun h => absurd h (by decide)⟩
    rw [tripEffect_of_tripLegs b ha, tripLegs, forLegsIn_eq_filter, hu, hv]
  | haltNode =>
    rw [ha] at hv hu
    refine ⟨fun h => ?_, fun _ hn => ?_⟩
    · rw [tripEffect_of_unaddressed b ha (h.resolve_left (by decide)), tripLegs, forLegsIn_eq_filter, hu, hv]
    · rw [tripEffect_of_addressed b ha hn, hu, hv]

/-! ### An unchanged entry (R104) -/

/-- A FAST HALT-NODE channel in QUALIFYING forces the legs the swap has enabled. -/
theorem swapUnchangedEntry_of_qualifying {old : Bank} {d : Time} {forced joined : LegSet}
    (hc : s.channel n = .qualifying d true forced) (ha : (s.protParams n).action = .haltNode)
    (hjoined : ∀ l, joined.get l = (forced.get l || (s.legEnabled l && !(old.legs.get l).mode.enabled))) :
    swapUnchangedEntry old n s =
      (allLegs.filter fun l => s.legEnabled l && !(old.legs.get l).mode.enabled).foldl
        (fun x l => forceLeg n l x) (s.setChannel n (.qualifying d true joined)) := by
  have hunion : forced.union (newlyEnabled old s) = joined := PerLeg.ext_get fun l => by
    rw [LegSet.union, get_legSetWhere, newlyEnabled, get_legSetWhere, hjoined]
  have hnew : (fun l => (newlyEnabled old s).get l) = fun l => s.legEnabled l && !(old.legs.get l).mode.enabled :=
    funext fun l => get_legSetWhere _ l
  unfold swapUnchangedEntry
  simp only [hc, ha]
  rw [hunion, forLegsIn_eq_filter, hnew]

theorem swapUnchangedEntry_of_other {old : Bank}
    (h : (∀ d forced, s.channel n ≠ .qualifying d true forced) ∨ (s.protParams n).action = .tripLegs) :
    swapUnchangedEntry old n s = s := by
  unfold swapUnchangedEntry
  split
  · next d forced hc =>
    have ha := h.resolve_left fun hno => hno d forced hc
    rw [ha]
  · rfl

end

end Sys2Proof.Machine
end

section
/-! PROOF. A swap as a whole: the banks, the legs and the schedule it leaves, and the commit check (R68, R136, R139). -/

namespace Sys2Proof.Machine

/-! ### What the monitors and the channels can do to one leg -/

/-- `L`, said of leg `l`'s record, is kept by each order that the monitors and the channels give the leg, in the states
with this active bank and this node time. -/
structure OrdersKeep (l : LegId) (bank : Bank) (now : Time) (L : Leg → Prop) : Prop where
  judge : ∀ s, s.activeBank = bank → s.now = now → L (s.leg l) → L ((judgeLeg l s).leg l)
  cause : ∀ x b s, s.activeBank = bank → s.now = now → L (s.leg l) → L ((addCause l x b s).leg l)
  force : ∀ n s, s.activeBank = bank → s.now = now → L (s.leg l) → L ((forceLeg n l s).leg l)
  withdraw : ∀ n s, s.activeBank = bank → s.now = now → L (s.leg l) → L ((withdrawLeg n l s).leg l)
  causes : ∀ cs s, s.activeBank = bank → s.now = now → L (s.leg l) → L ((setCauses l cs s).leg l)

/-- The state has this active bank and this node time, and `L` holds of leg `l`. -/
structure LegHolds (l : LegId) (bank : Bank) (now : Time) (L : Leg → Prop) (s : State) : Prop where
  bank : s.activeBank = bank
  now : s.now = now
  leg : L (s.leg l)

section
variable {l : LegId} {bank : Bank} {now : Time} {L : Leg → Prop} {s t : State}

theorem LegHolds.frame {k : LegId} (h : LegHolds l bank now L s) (frame : LegFrame k s t)
    (here : k = l → L (t.leg k)) : LegHolds l bank now L t := by
  refine ⟨frame.blocks.activeBank.trans h.bank, frame.blocks.now.trans h.now, ?_⟩
  by_cases hk : k = l
  · exact hk ▸ here hk
  · rw [frame.legs l (Ne.symm hk)]
    exact h.leg

theorem LegHolds.of_eq (h : LegHolds l bank now L s) (hbank : t.activeBank = s.activeBank) (hnow : t.now = s.now)
    (hlege : t.lge = s.lge) : LegHolds l bank now L t :=
  ⟨hbank.trans h.bank, hnow.trans h.now, by rw [State.leg, hlege]; exact h.leg⟩

theorem LegHolds.same (h : LegHolds l bank now L s) (same : SameButReports s t) : LegHolds l bank now L t :=
  h.of_eq (by rw [State.activeBank, State.activeBank, same.bks]) (by rw [State.now, State.now, same.ctu]) same.lge

namespace OrdersKeep

theorem addCause (K : OrdersKeep l bank now L) (k : LegId) (x : LegCause) (b : Bool) (h : LegHolds l bank now L s) :
    LegHolds l bank now L (addCause k x b s) :=
  h.frame (.addCause k x b s) fun hk => by subst hk; exact K.cause x b s h.bank h.now h.leg

theorem haltLegs (K : OrdersKeep l bank now L) (h : LegHolds l bank now L s) : LegHolds l bank now L (haltLegs s) := by
  rw [haltLegs_eq]
  refine forLegs_keeps (fun k t ht => ?_) h
  unfold haltLeg
  split
  · exact ht
  · exact K.addCause k _ _ ht

theorem protKept (K : OrdersKeep l bank now L) : ProtKept (LegHolds l bank now L) where
  judge k s h := h.frame (.judgeLeg k s) fun hk => by subst hk; exact K.judge s h.bank h.now h.leg
  cause k x b _ := K.addCause k x b
  monitor _ _ _ _ _ h := h.of_eq rfl rfl rfl
  feedback _ _ h := h.of_eq rfl rfl rfl
  record b s _ h := h.same (report_same b s)
  capture k sw d c s h := h.same (captureEdge_same k sw d c s)
  enterHalt x s _ _ h := by
    have halted := K.haltLegs (s := haltRecorded x s) ((h.of_eq (t := s.setNode .halted (HaltSet.empty.add x)) rfl rfl
      rfl).same (report_same _ _))
    refine ⟨(activeBank_haltEnter x s).trans h.bank, ?_, ?_⟩
    · rw [State.now, ctu_haltEnter]
      exact h.now
    · rw [State.leg, lge_haltEnter]
      exact halted.leg
  furtherHalt x s _ h := K.haltLegs ((h.of_eq (t := s.setNode .halted (s.ncu.causes.add x)) rfl rfl
    rfl).same (report_same _ _))
  force n k s h := h.frame (.forceLeg n k s) fun hk => by subst hk; exact K.force n s h.bank h.now h.leg
  withdraw n k s h := h.frame (.withdrawLeg n k s) fun hk => by subst hk; exact K.withdraw n s h.bank h.now h.leg
  causes k cs s h := h.frame (.setCauses k cs s) fun hk => by subst hk; exact K.causes cs s h.bank h.now h.leg
  pru _ _ h := h.of_eq rfl rfl rfl

end OrdersKeep

/-- No order reaches a DISABLED leg that is OFF. -/
theorem ordersKeep_off {x : Leg} (hdis : (bank.legs.get l).mode.enabled = false) (hoff : x.cond = .off) :
    OrdersKeep l bank now fun y => y = x := by
  have disabled {s : State} (hb : s.activeBank = bank) : s.legEnabled l = false := by
    rw [State.legEnabled, State.legParams, hb]
    exact hdis
  have off {s : State} (h : s.leg l = x) : (s.leg l).cond = .off := by rw [h, hoff]
  refine ⟨fun s _ _ h => ?_, fun y b s hb _ h => ?_, fun n s hb _ h => ?_, fun n s _ _ h => ?_, fun cs s _ _ h => ?_⟩
  · rw [judgeLeg, off h]
    exact h
  · rw [addCause_of_disabled (disabled hb)]
    exact h
  · rw [forceLeg_of_disabled (disabled hb)]
    exact h
  · rw [withdrawLeg_of_not_held fun g hc => by simp [off h] at hc]
    exact h
  · rw [leg_setCauses.1 (by rw [off h]; rfl)]
    exact h

theorem lastOff_stopped {x : Leg} (h : x.lastOff = now) : (x.stopped now).lastOff = now := by
  unfold Leg.stopped
  split
  · exact h
  · rfl

theorem lastOff_safeEntry (p : LegRecord) (cs : Causes) (clamp : Option Switch) (b : Bool) {x : Leg}
    (h : x.lastOff = now) : (safeEntry p now cs clamp b x).lastOff = now := by
  by_cases hopen : b = true ∨ clamp = none
  · rw [safeEntry_opened p now cs x hopen]
    exact lastOff_stopped h
  · obtain ⟨hb, hsome⟩ := not_or.1 hopen
    obtain ⟨sw, rfl⟩ := Option.ne_none_iff_exists'.1 hsome
    rw [Bool.eq_false_iff.2 hb]
    by_cases hside : x.cond.side = some sw
    · rw [safeEntry_clamped p now cs x hside]
      exact h
    · rw [safeEntry_settling p now cs x hside]
      exact lastOff_stopped h

theorem lastOff_judgeLeg (l : LegId) (s : State) : ((judgeLeg l s).leg l).lastOff = (s.leg l).lastOff := by
  unfold judgeLeg
  dsimp only
  split
  · split
    · rw [leg_putLeg_same]
    · rfl
  · split
    · rw [leg_putLeg_same]
    · rfl
  · rfl

/-- A turn-off instant at `now` stays the last one: an order leaves it or makes one at `now`. -/
theorem ordersKeep_lastOff : OrdersKeep l bank now fun x => x.lastOff = now := by
  refine ⟨fun s _ _ h => ?_, fun y b s _ hnow h => ?_, fun n s _ hnow h => ?_, fun n s _ _ h => ?_, fun cs s _ hnow h => ?_⟩
  · rw [lastOff_judgeLeg, h]
  · by_cases hen : s.legEnabled l = true
    · by_cases hsafe : (s.leg l).cond.isSafe = true
      · cases hc : (s.leg l).cond with
        | safe cs p k =>
          rw [addCause_of_safe hen hc]
          split
          · rw [lastOff_suppressClamp (cs := cs.add y) (p := p) (k := k) (by rw [leg_setLeg_same]), leg_setLeg_same]
            split
            · exact hnow
            · exact h
          · rw [leg_setLeg_same]
            exact h
        | _ => simp [hc, LegCond.isSafe] at hsafe
      · rw [addCause_of_not_safe hen (Bool.eq_false_iff.2 hsafe), lastOff_judgeLeg, leg_putLeg_same, hnow]
        exact lastOff_safeEntry _ _ _ _ h
    · rw [addCause_of_disabled (Bool.eq_false_iff.2 hen)]
      exact h
  · by_cases hfree : s.legEnabled l = false ∨ (s.leg l).cond.isSafe = true
    · rw [forceLeg_of_untouched hfree]
      exact h
    · obtain ⟨hen, hsafe⟩ := not_or.1 hfree
      obtain ⟨held, hleg, -⟩ := leg_forceLeg (n := n) (Bool.eq_true_of_not_eq_false hen) (Bool.eq_false_iff.2 hsafe)
      rw [hleg]
      exact hnow
  · unfold withdrawLeg
    split
    · split
      · rw [leg_setLeg_same]
        exact h
      · exact h
    · exact h
  · unfold setCauses
    split
    · split
      · rw [leg_putLeg_same]
        exact hnow
      · rw [leg_setLeg_same]
        exact h
    · exact h

end

/-! ### The steps of a swap (R139) -/

/-- A swap up to the monitors: the banks exchanged, the legs and the schedule brought into line. -/
def swapStart (form : CommitForm) (s : State) : State :=
  discardEntries (swapKeeps s.activeBank s.shadowBank) .swap (forLegs (swapLeg s.activeBank) (exchangeRecorded form s))

section
variable (form : CommitForm) (s : State)

theorem swapBanks_eq :
    swapBanks form s = swapChannels s.activeBank (swapMonitors s.activeBank (swapStart form s)) := by
  rw [swapStart, ← activeBank_exchangeBanks]
  rfl

/-- What the monitors and the channels keep, a swap keeps from its start on. -/
theorem swapBanks_keeps {P : State → Prop} (K : ProtKept P) (h : P (swapStart form s)) : P (swapBanks form s) := by
  rw [swapBanks_eq]
  exact K.swapChannels _ (K.swapMonitors _ h)

theorem swapLegs_same (old : Bank) (t : State) : SameButLegs t (forLegs (swapLeg old) t) :=
  .ofForLegs (fun l t => swapLeg_same old l t) t

theorem bks_swapStart : (swapStart form s).bks = (exchangeBanks s).bks := by
  rw [swapStart, bks_discardEntries, (swapLegs_same _ _).bks, exchangeRecorded, bks_report]

theorem activeBank_swapStart : (swapStart form s).activeBank = s.shadowBank := by
  rw [State.activeBank, bks_swapStart]
  exact activeBank_exchangeBanks s

theorem now_swapStart : (swapStart form s).now = s.now := by
  rw [State.now, swapStart, ctu_discardEntries, (swapLegs_same _ _).ctu, exchangeRecorded, ctu_report]
  rfl

theorem esu_swapStart :
    (swapStart form s).esu.pulses = s.esu.pulses ∧
      (swapStart form s).esu.schedule = s.esu.schedule.filter (swapKeeps s.activeBank s.shadowBank) := by
  rw [swapStart, pulses_discardEntries, schedule_discardEntries, (swapLegs_same _ _).esu, exchangeRecorded, esu_report]
  exact ⟨rfl, rfl⟩

/-- A leg at the start of a swap is what its modes make of it (R140 to R142). -/
theorem leg_swapStart (l : LegId) :
    ∃ t : State, t.leg l = s.leg l ∧ t.now = s.now ∧ t.legParams l = s.shadowBank.legs.get l ∧
      (swapStart form s).leg l = (swapLeg s.activeBank l t).leg l := by
  obtain ⟨t, same, hleg, -, hloop, -⟩ := forLegs_leg (s := exchangeRecorded form s) (LegFrame.swapLeg s.activeBank) l
  refine ⟨t, ?_, ?_, ?_, ?_⟩
  · rw [hleg, exchangeRecorded, State.leg, lge_report]
    rfl
  · rw [same.now, State.now, exchangeRecorded, ctu_report]
    rfl
  · rw [State.legParams, same.activeBank, exchangeRecorded, activeBank_report, activeBank_exchangeBanks]
  · rw [← hloop, swapStart, State.leg, lge_discardEntries]
    rfl

/-! ### What a swap leaves -/

theorem otherBank_eq (x : BankName) : otherBank x = if x = .a then .b else .a := by
  cases x <;> rfl

/-- A halt order cancels a pending commit and changes no more of the banks; none is pending here. -/
theorem protKept_bks {b : Bks} (h : b.pending = none) : ProtKept fun s => s.bks = b where
  judge l s hb := by rwa [(judgeLeg_same l s).bks]
  cause l x c s hb := by rwa [(addCause_same l x c s).bks]
  monitor _ _ _ _ _ hb := hb
  feedback _ _ hb := hb
  record c s _ hb := by rwa [bks_report]
  capture l sw d c s hb := by rwa [(captureEdge_same l sw d c s).bks]
  enterHalt x s _ _ hb := by rw [bks_haltEnter, hb, ← h]
  furtherHalt x s _ hb := by rwa [bks_haltFurther]
  force n l s hb := by rwa [(forceLeg_same n l s).bks]
  withdraw n l s hb := by rwa [(withdrawLeg_same n l s).bks]
  causes l cs s hb := by rwa [(setCauses_same l cs s).bks]
  pru _ _ hb := hb

theorem bks_swapBanks :
    (swapBanks form s).bks = { s.bks with active := if s.bks.active = .a then .b else .a, pending := none } := by
  rw [← otherBank_eq]
  exact swapBanks_keeps form s (protKept_bks rfl) (bks_swapStart form s)

theorem activeBank_swapBanks : (swapBanks form s).activeBank = s.shadowBank := by
  have hbks : (swapBanks form s).bks = (exchangeBanks s).bks :=
    swapBanks_keeps form s (protKept_bks rfl) (bks_swapStart form s)
  rw [State.activeBank, hbks]
  exact activeBank_exchangeBanks s

/-- Pulses and schedule stay unless the monitors or the channels halt the node. -/
theorem protKept_haltedOrEsu (pulses : PerStrobe (Option Time)) (es : List SchedEntry) :
    ProtKept fun s => s.ncu.state = .halted ∨ s.esu.pulses = pulses ∧ s.esu.schedule = es where
  judge l s h := by rwa [(judgeLeg_same l s).ncu, (judgeLeg_same l s).esu]
  cause l x b s h := by rwa [(addCause_same l x b s).ncu, (addCause_same l x b s).esu]
  monitor _ _ _ _ _ h := h
  feedback _ _ h := h
  record b s _ h := by rwa [ncu_report, esu_report]
  capture l sw d c s h := by rwa [(captureEdge_same l sw d c s).ncu, (captureEdge_same l sw d c s).esu]
  enterHalt x s _ _ _ := .inl (by rw [ncu_haltEnter])
  furtherHalt x s _ _ := .inl (by rw [ncu_haltFurther])
  force n l s h := by rwa [(forceLeg_same n l s).ncu, (forceLeg_same n l s).esu]
  withdraw n l s h := by rwa [(withdrawLeg_same n l s).ncu, (withdrawLeg_same n l s).esu]
  causes l cs s h := by rwa [(setCauses_same l cs s).ncu, (setCauses_same l cs s).esu]
  pru _ _ h := h

theorem esu_swapBanks :
    (swapBanks form s).ncu.state = .halted ∨
      (swapBanks form s).esu.pulses = s.esu.pulses ∧
        (swapBanks form s).esu.schedule = s.esu.schedule.filter (swapKeeps s.activeBank s.shadowBank) :=
  swapBanks_keeps form s (protKept_haltedOrEsu _ _) (.inr (esu_swapStart form s))

theorem LegMode.enabled_eq_false_iff (m : LegMode) : m.enabled = false ↔ m = .disabled := by
  cases m <;> simp [LegMode.enabled]

theorem LegMode.enabled_iff (m : LegMode) : m.enabled = true ↔ m ≠ .disabled := by
  cases m <;> simp [LegMode.enabled]

variable {form s}

/-- A leg that the swap disables is OFF, whatever the monitors and the channels do after (R140). -/
theorem leg_swapBanks_disabled {l : LegId} (hold : s.legEnabled l = true)
    (hnew : (s.shadowBank.legs.get l).mode.enabled = false) :
    (swapBanks form s).leg l =
      if s.commanded l .upper = true ∨ s.commanded l .lower = true then Leg.offAt s.now .off
      else { s.leg l with cond := .off } := by
  obtain ⟨t, hleg, hnow, hparams, hstart⟩ := leg_swapStart form s l
  rw [swapLeg_of_disabled ((LegMode.enabled_iff _).1 hold)
    (by rw [hparams]; exact (LegMode.enabled_eq_false_iff _).1 hnew), leg_swapDisableLeg, hnow, hleg,
    commanded_of_leg hleg, commanded_of_leg hleg] at hstart
  have kept := swapBanks_keeps form s
    (ordersKeep_off (now := s.now) (x := (swapStart form s).leg l) hnew (by rw [hstart]; split <;> rfl)).protKept
    ⟨activeBank_swapStart form s, now_swapStart form s, rfl⟩
  rw [kept.leg, hstart]

/-- A leg that the swap enables counts as turned off then (R141). -/
theorem lastOff_swapBanks_enabled {l : LegId} (hold : s.legEnabled l = false)
    (hnew : (s.shadowBank.legs.get l).mode.enabled = true) : ((swapBanks form s).leg l).lastOff = s.now := by
  obtain ⟨t, hleg, hnow, hparams, hstart⟩ := leg_swapStart form s l
  rw [swapLeg_of_enabled ((LegMode.enabled_eq_false_iff _).1 hold)
    (by rw [hparams]; exact (LegMode.enabled_iff _).1 hnew), swapEnableLeg, leg_setLeg_same, hnow] at hstart
  exact (swapBanks_keeps form s ordersKeep_lastOff.protKept
    ⟨activeBank_swapStart form s, now_swapStart form s, by rw [hstart]; rfl⟩).leg

end

/-! ### The commit check (R136) -/

theorem commitCheck_of_pending {s : State} {g : Half} (h : s.bks.pending = some g) :
    commitCheck s = if (s.ctu.cycle - g).toNat ≤ 32767 then swapBanks .targeted s else s := by
  unfold commitCheck
  rw [h]
  exact if_congr (cycleReached_iff _ _) rfl rfl

theorem commitCheck_of_none {s : State} (h : s.bks.pending = none) : commitCheck s = s := by
  unfold commitCheck
  rw [h]

/-! ### The steps in their order -/

theorem entryChanged_iff (old new : ProtEntry) :
    entryChanged old new = true ↔
      old.use ≠ new.use ∨ old.legs ≠ new.legs ∨ old.action ≠ new.action ∨ old.assertLevel ≠ new.assertLevel := by
  simp only [entryChanged, Bool.or_eq_true, decide_eq_true_iff, or_assoc]

theorem swapChannels_eq (old : Bank) (s : State) :
    swapChannels old s =
      allChans.foldl
        (fun x n =>
          if (old.prot.get n).use ≠ (x.protParams n).use ∨ (old.prot.get n).legs ≠ (x.protParams n).legs ∨
              (old.prot.get n).action ≠ (x.protParams n).action ∨
              (old.prot.get n).assertLevel ≠ (x.protParams n).assertLevel then
            swapChangedEntry n x
          else swapUnchangedEntry old n x) s := by
  unfold swapChannels forChans
  congr 1
  exact funext fun x => funext fun n => if_congr (entryChanged_iff _ _) rfl rfl

/-- Settles O57: the kept conditions of a swap, and then its steps one by one. -/
theorem swapsExchangeTheBanks : Obligations.SwapsExchangeTheBanks := by
  refine ⟨fun form s t ht => ?_, fun s => ?_, fun form old s a b c d hold ha hb hc hd => ?_, fun old l s t ht => ?_,
    fun old l sw s => ?_, fun n s => ?_, fun old n s => ⟨fun d forced joined hc haction hjoined => ?_, ?_⟩⟩
  · subst ht
    refine ⟨bks_swapBanks form s, activeBank_swapBanks form s, swapBanks_outside form s,
      fun l => ⟨fun hold hnew => ?_, lastOff_swapBanks_enabled⟩, ?_⟩
    · rw [leg_swapBanks_disabled hold hnew]
      exact ⟨by split <;> rfl, by split <;> rfl⟩
    · refine (esu_swapBanks form s).imp id fun ⟨hpulses, hschedule⟩ => ⟨hpulses, hschedule.trans ?_⟩
      refine List.filter_congr fun e _ => ?_
      unfold swapKeeps
      cases e.work <;> rfl
  · refine ⟨commitCheck_of_none, fun g hg => ?_⟩
    rw [commitCheck_of_pending hg]
    exact ⟨fun hle => if_pos hle, fun hgt => if_neg (by omega)⟩
  · have hstart : swapStart form s = c := by
      rw [hc, hb, ha, hold, ← otherBank_eq]
      rfl
    have hmonitors : swapMonitors old c = d := by
      rw [hd]
      rfl
    rw [swapBanks_eq, hstart, ← hold, hmonitors, swapChannels_eq]
  · obtain ⟨same, enabled, disabled⟩ := swapLeg_by_modes old l s t ht
    refine ⟨same, enabled, disabled, fun hold hnew => ?_, fun hold hnew => ?_⟩
    · exact (ht.trans (swapLeg_of_toComplementary hold hnew)).trans (swapToComplementary_eq l s)
    · have hsingle : t = swapToSingle l s := ht.trans (swapLeg_of_toSingle hold hnew)
      refine ⟨?_, leg_swapToSingle l s t hsingle⟩
      exact hsingle ▸ swapToSingle_eq l s
  · exact ⟨fun h => alignMonitor_of_unmonitored ((monitors_iff _).2 h),
      fun h => alignMonitor_by_records old l sw s (monitors_of_operating h)⟩
  · refine ⟨swapChangedEntry_of_idle, fun _ _ _ => swapChangedEntry_of_qualifying, fun _ => swapChangedEntry_of_holding,
      fun hc => ⟨fun hlow => ?_, fun hhigh v u hv hu => ?_⟩⟩
    · rw [swapChangedEntry_of_active hc, hlow]
      rfl
    · obtain ⟨hlegs, hhalt⟩ := tripEffect_by_action n .entryChanged s hv hu
      rw [swapChangedEntry_of_active hc, if_pos hhigh, countTrip]
      exact ⟨fun h => by rw [hlegs h], fun ha hn => by rw [hhalt ha hn]⟩
  · exact swapUnchangedEntry_of_qualifying hc haction hjoined
  · exact swapUnchangedEntry_of_other

end Sys2Proof.Machine
end
